-- ==== Sys2Proof/Word.lean ====
section
/-! DEFINITION. The word types of FDEC: a byte of the frame, a command word, a response word, an operand field.
Only widths the spec calls bit patterns are bit vectors; byte counts, lengths and decoded quantities are `Nat` or `Int`. -/

namespace Sys2Proof

/-- One byte of the frame space (20_memory.md R60). -/
abbrev Byte := BitVec 8

/-- One command word (30_encoding.md R100; `CMD_WIDTH`, 00_scope.md R9). -/
abbrev CommandWord := BitVec 32

/-- One response word (30_encoding.md R112; `RESP_WIDTH`, 00_scope.md R9). -/
abbrev Response := BitVec 64

/-- The opcode field `OPC`, bits [31:24] of a command word (30_encoding.md R100). -/
abbrev Opcode := BitVec 8

/-- A register number (10_state.md R31; `REG_ADDR_WIDTH`, 00_scope.md R9). -/
abbrev RegNumber := BitVec 12

/-- The frame-space address field `OFF` (30_encoding.md R104, R106). -/
abbrev FrameOffset := BitVec 9

end Sys2Proof
end

