-- ==== Sys2Proof/Syntax.lean ====
section
/-! DEFINITION. The nine commands of FDEC-CMD v1 with their operands (30_encoding.md R100 to R108, R113). -/

namespace Sys2Proof

/-- A command, one constructor for each row of the opcode map (30_encoding.md R108). An operand is the unsigned value of its
field (R107); `rdbe` carries the byte count `n = 2^NSEL` that R107 and the assembler syntax (R113) give it. -/
inductive Instr where
  /-- `NOP` (40_control.md R132). -/
  | nop
  /-- `RESET` (40_control.md R133). -/
  | reset
  /-- `BEGIN` (40_control.md R134). -/
  | beginBuffer
  /-- `PUSH b` (40_control.md R135). -/
  | push (b : Byte)
  /-- `END` (40_control.md R137). -/
  | endBuffer
  /-- `RDREG r` (41_readback.md R161). -/
  | rdreg (r : RegNumber)
  /-- `RDFRM off` (41_readback.md R163). -/
  | rdfrm (off : FrameOffset)
  /-- `EXTLE start, width` (41_readback.md R164). -/
  | extle (start : BitVec 8) (width : BitVec 6)
  /-- `RDBE off, n` (41_readback.md R165). -/
  | rdbe (off : FrameOffset) (n : Nat)
  deriving DecidableEq, Repr

end Sys2Proof
end

