-- ==== Sys2Proof/WellFormed.lean ====
section
/-! DEFINITION. Which commands can be written as a word. Every operand but one is a bit field that any value of its type fills;
`RDBE`'s byte count must be one that `NSEL` can give (30_encoding.md R107, R113). Whether a command ACCEPTS an operand it can
hold is another question, asked when it executes (R107, 60_exceptions.md R331). -/

namespace Sys2Proof

/-- The byte counts `NSEL` can give: `n ∈ {1,2,4,8}` (30_encoding.md R107, R113). -/
def validByteCount (n : Nat) : Bool := n == 1 || n == 2 || n == 4 || n == 8

/-- The command has an encoding (30_encoding.md R113: "The assembler refuses an operand outside the field's bit range"). -/
def Instr.wellFormed : Instr → Bool
  | .nop => true
  | .reset => true
  | .beginBuffer => true
  | .push _ => true
  | .endBuffer => true
  | .rdreg _ => true
  | .rdfrm _ => true
  | .extle _ _ => true
  | .rdbe _ n => validByteCount n

end Sys2Proof
end

