-- ==== Sys2Proof/Decode.lean ====
section
/-! DEFINITION. The decoder of command words and, after it, the encoder (30_encoding.md R100 to R112). A command word is a 32-bit
value with no byte order of its own (20_memory.md R68). -/

namespace Sys2Proof

/-- The assigned opcodes (30_encoding.md R108). -/
def opcNop : Opcode := 0x00#8
def opcReset : Opcode := 0x01#8
def opcBegin : Opcode := 0x02#8
def opcPush : Opcode := 0x03#8
def opcEnd : Opcode := 0x04#8
def opcRdreg : Opcode := 0x10#8
def opcRdfrm : Opcode := 0x11#8
def opcExtle : Opcode := 0x12#8
def opcRdbe : Opcode := 0x13#8

/-- The field `OPC`, bits [31:24] (30_encoding.md R100). -/
def opcodeOf (w : CommandWord) : Opcode := w.extractLsb' 24 8

/-- `n = 2^NSEL` (30_encoding.md R107). -/
def byteCount (nsel : BitVec 2) : Nat := 2 ^ nsel.toNat

/-- `NSEL = log2 n` for the four byte counts (30_encoding.md R113). -/
def nselOf (n : Nat) : BitVec 2 :=
  if n = 8 then 3#2 else if n = 4 then 2#2 else if n = 2 then 1#2 else 0#2

/-- One row of the opcode map: the bits a word must have, which bits they are, and how the format's operand fields are taken. -/
structure OpcodeRow where
  /-- The row's mnemonic. -/
  mnemonic : String
  /-- The row's `match`. -/
  matchBits : CommandWord
  /-- The row's `mask`. -/
  mask : CommandWord
  /-- The command, its operands read from the fields of the row's format (30_encoding.md R101 to R106). -/
  command : CommandWord → Instr

/-- The opcode map (30_encoding.md R108), with the operand fields of formats N, B, R, F, X and E (R101 to R106). -/
def opcodeTable : List OpcodeRow :=
  [ ⟨"NOP",   0x00000000#32, 0xFFFFFFFF#32, fun _ => .nop⟩,
    ⟨"RESET", 0x01000000#32, 0xFFFFFFFF#32, fun _ => .reset⟩,
    ⟨"BEGIN", 0x02000000#32, 0xFFFFFFFF#32, fun _ => .beginBuffer⟩,
    ⟨"PUSH",  0x03000000#32, 0xFFFFFF00#32, fun w => .push (w.extractLsb' 0 8)⟩,
    ⟨"END",   0x04000000#32, 0xFFFFFFFF#32, fun _ => .endBuffer⟩,
    ⟨"RDREG", 0x10000000#32, 0xFFFFF000#32, fun w => .rdreg (w.extractLsb' 0 12)⟩,
    ⟨"RDFRM", 0x11000000#32, 0xFFFFFE00#32, fun w => .rdfrm (w.extractLsb' 0 9)⟩,
    ⟨"EXTLE", 0x12000000#32, 0xFFFFC000#32, fun w => .extle (w.extractLsb' 0 8) (w.extractLsb' 8 6)⟩,
    ⟨"RDBE",  0x13000000#32, 0xFFFFF800#32, fun w => .rdbe (w.extractLsb' 0 9) (byteCount (w.extractLsb' 9 2))⟩ ]

/-- The word selects the row: `(w and mask) = match` (30_encoding.md R108). -/
def OpcodeRow.selects (r : OpcodeRow) (w : CommandWord) : Bool := w &&& r.mask == r.matchBits

/-- Why a word is illegal (30_encoding.md R109). -/
inductive DecodeError where
  /-- `OPC` is none of the nine. -/
  | unassignedOpcode
  /-- `OPC` is assigned and a bit its format reserves is 1. -/
  | reservedBitSet
  deriving DecidableEq, Repr

/-- `OPC` is one of the nine assigned opcodes (30_encoding.md R108). -/
def opcodeAssigned (opc : Opcode) : Bool :=
  [opcNop, opcReset, opcBegin, opcPush, opcEnd, opcRdreg, opcRdfrm, opcExtle, opcRdbe].contains opc

/-- The decoder: "a decoder reads one 32-bit word and consults rule R108 alone" (30_encoding.md R111). A word of no row is
illegal (R109). -/
def decode (w : CommandWord) : Except DecodeError Instr :=
  match opcodeTable.find? (fun r => r.selects w) with
  | some r => .ok (r.command w)
  | none => .error (if opcodeAssigned (opcodeOf w) then .reservedBitSet else .unassignedOpcode)

/-- Whether a word gets a response "is decided by its `OPC` field alone": 0x10 to 0x13 (30_encoding.md R112; 90_conflicts.md
C8). -/
def opcReturnsResponse (opc : Opcode) : Bool := [opcRdreg, opcRdfrm, opcExtle, opcRdbe].contains opc

/-- The opcode of a command (30_encoding.md R108). -/
def Instr.opcode : Instr → Opcode
  | .nop => opcNop
  | .reset => opcReset
  | .beginBuffer => opcBegin
  | .push _ => opcPush
  | .endBuffer => opcEnd
  | .rdreg _ => opcRdreg
  | .rdfrm _ => opcRdfrm
  | .extle _ _ => opcExtle
  | .rdbe _ _ => opcRdbe

/-- The operand field of a command, bits [23:0], by its format (30_encoding.md R101 to R106). -/
def Instr.operandField : Instr → BitVec 24
  | .nop => 0#24
  | .reset => 0#24
  | .beginBuffer => 0#24
  | .push b => 0#16 ++ b
  | .endBuffer => 0#24
  | .rdreg r => 0#12 ++ r
  | .rdfrm off => 0#15 ++ off
  | .extle start width => (0#10 ++ width) ++ start
  | .rdbe off n => (0#13 ++ nselOf n) ++ off

/-- The encoder: the word of a well-formed command (30_encoding.md R100 to R106, R113). -/
def encode (i : Instr) : CommandWord := i.opcode ++ i.operandField

/-- The command word of a row of the opcode table whose `nbits` bits are `w`; every bit above them is 0. -/
def tableWord (nbits w : Nat) : CommandWord := BitVec.ofNat 32 (w % 2 ^ nbits)

/-- The command the decoder reads from a table row's bits; no row is wider than one command word (30_encoding.md R100). -/
def decodeTableWord (nbits w : Nat) : Option Instr :=
  if nbits ≤ 32 then (decode (tableWord nbits w)).toOption else none

end Sys2Proof
end

