-- ==== Sys2Proof/Config.lean ====
section
/-! DEFINITION. The constants of the block (00_scope.md R8, R9) and its two open parameters (00_scope.md R10). -/

namespace Sys2Proof.Config

/-- `FRAME_LEN`: the bytes of a normalised frame (00_scope.md R8). -/
abbrev frameLen : Nat := 302

/-- `FH_BASE`: the first byte of the fixed header (00_scope.md R8). -/
abbrev fhBase : Nat := 0

/-- `FH_LEN`: the bytes of the fixed header (00_scope.md R8). -/
abbrev fhLen : Nat := 16

/-- `SIPS_BASE`: the first byte of the SIPS header (00_scope.md R8). -/
abbrev sipsBase : Nat := 16

/-- `SIPS_LEN`: the bytes of the SIPS header (00_scope.md R8). -/
abbrev sipsLen : Nat := 256

/-- `LTAS_BASE`: the first byte of the LTAS section (00_scope.md R8). -/
abbrev ltasBase : Nat := 272

/-- `LTAS_LEN`: the bytes of the LTAS section (00_scope.md R8). -/
abbrev ltasLen : Nat := 30

/-- `LTAS_BITS`: the bits of the LTAS section (00_scope.md R8). -/
abbrev ltasBits : Nat := 240

/-- `SYNC_POS`: the first of the two sync bytes (00_scope.md R8). -/
abbrev syncPos : Nat := 300

/-- `SYNC_A` (00_scope.md R8). -/
abbrev syncA : Nat := 0x5858

/-- `SYNC_B` (00_scope.md R8). -/
abbrev syncB : Nat := 0x58A0

/-- The value at which `CNT` saturates (`CNT_WIDTH`, 00_scope.md R9; 10_state.md R25). -/
abbrev cntMax : BitVec 32 := 0xFFFFFFFF#32

/-- `EXT_MAX_WIDTH`: the widest field `EXTLE` reads (00_scope.md R9). -/
abbrev extMaxWidth : Nat := 32

/-- The part of `LAT` above its minimum: `LAT(cmd) - 1` clock cycles. OPEN in the spec (00_scope.md R10, 92 D28):
no value is known of it and no rule depends on it (log entry 7). -/
opaque latAboveMinimum : CommandWord → Nat

/-- `LAT(cmd)`: the clock cycles a command takes, "at least 1" (00_scope.md R10, 70_reset_and_hazards.md R359). -/
def lat (w : CommandWord) : Nat := latAboveMinimum w + 1

/-- `CHECKSUM_FN`: the checksum relation over the frame that the ICD would give. OPEN in the spec (00_scope.md R10, 92 D20):
FDEC never evaluates it (44_ltas_frame.md R302); a host that knows the algorithm applies it to the bytes it reads (log entry 7). -/
opaque checksumFn : List Byte → Bool

end Sys2Proof.Config
end

