-- ==== Sys2Proof/Machine/Frame.lean ====
section
/-! DEFINITION. The normalised frame `F` and the primitives that read it (00_scope.md R13, R14; 20_memory.md R62 to R73;
43_sips_header.md R212; 44_ltas_frame.md R262). -/

namespace Sys2Proof.Machine

/-- A normalised frame `F[0..301]` (10_state.md R26): the list of its 302 bytes, in address order. -/
abbrev Frame := List Byte

/-- `F[i]` (00_scope.md R14). Addresses above 301 do not exist and every caller's range excludes them. -/
def Frame.byte (F : Frame) (i : Nat) : Byte := List.getD F i 0#8

/-- `MemRead(a, n)`: the bytes `F[a], ..., F[a+n-1]` (00_scope.md R14). -/
def Frame.memRead (F : Frame) (a n : Nat) : List Byte := (List.range n).map (fun j => F.byte (a + j))

/-- The unsigned integer of a list of bytes, first byte most significant. -/
def beValue (bs : List Byte) : Nat := bs.foldl (fun acc b => acc * 256 + b.toNat) 0

/-- The unsigned integer of a list of bytes, first byte least significant. -/
def leValue : List Byte → Nat
  | [] => 0
  | b :: bs => b.toNat + 256 * leValue bs

/-- `BE(a, n)` (20_memory.md R70). -/
def Frame.be (F : Frame) (a n : Nat) : Nat := beValue (F.memRead a n)

/-- `LE(a, n)` (20_memory.md R71). -/
def Frame.le (F : Frame) (a n : Nat) : Nat := leValue (F.memRead a n)

/-- `L = LE(272, 30)`, the LTAS section integer (20_memory.md R72). -/
def Frame.ltasInteger (F : Frame) : Nat := F.le Config.ltasBase Config.ltasLen

/-- `lbits(a, b) = (L >> (a-1)) mod 2^(b-a+1)`, source positions counted from 1 (20_memory.md R72). -/
def Frame.lbits (F : Frame) (a b : Nat) : Nat := (F.ltasInteger >>> (a - 1)) % 2 ^ (b - a + 1)

/-- `TLEN(a, w)`: the length left when trailing 0x00 bytes are stripped (43_sips_header.md R212). -/
def Frame.tlen (F : Frame) (a : Nat) : Nat → Nat
  | 0 => 0
  | w + 1 => if F.byte (a + w) ≠ 0#8 then w + 1 else F.tlen a w

/-- `CORR_N(m, s)`, the two's-complement correction (44_ltas_frame.md R262). -/
def corr (N m s : Nat) : Int :=
  if s = 0 then (m : Int) else -(((m ^^^ (2 ^ N - 1)) + 1 : Nat) : Int)

/-- `sext_N(v)` of an N-bit value (00_scope.md R13). -/
def sext (N v : Nat) : Int := if v < 2 ^ (N - 1) then (v : Int) else (v : Int) - 2 ^ N

/-- `zext_64(v)`, a response word (00_scope.md R13; 10_state.md R38). -/
def zext64 (v : Nat) : Response := BitVec.ofNat 64 v

/-- `s mod 2^64`, a signed value in a response word (00_scope.md R13; 10_state.md R38). -/
def sext64 (s : Int) : Response := BitVec.ofInt 64 s

/-- The three sections of a frame (20_memory.md R62, R63). -/
inductive FrameSection where
  | fixedHeader
  | sips
  | ltas
  deriving DecidableEq, Repr

/-- The sections in frame order. -/
def FrameSection.all : List FrameSection := [.fixedHeader, .sips, .ltas]

/-- The section's first byte: `FH_BASE`, `SIPS_BASE`, `LTAS_BASE` (00_scope.md R8). -/
def FrameSection.base : FrameSection → Nat
  | .fixedHeader => Config.fhBase
  | .sips => Config.sipsBase
  | .ltas => Config.ltasBase

/-- The section's bytes: `FH_LEN`, `SIPS_LEN`, `LTAS_LEN` (00_scope.md R8). -/
def FrameSection.len : FrameSection → Nat
  | .fixedHeader => Config.fhLen
  | .sips => Config.sipsLen
  | .ltas => Config.ltasLen

/-- Byte `a` lies in the section. -/
def FrameSection.holds (x : FrameSection) (a : Nat) : Bool := x.base ≤ a && a < x.base + x.len

/-- A row of the frame layout: the section, the half-open byte range and its field (20_memory.md R62). -/
structure LayoutRow where
  /-- The section the row belongs to. -/
  part : FrameSection
  /-- First byte. -/
  lo : Nat
  /-- One past the last byte. -/
  hi : Nat
  /-- The field's name. -/
  field : String
  deriving DecidableEq, Repr

/-- The frame layout, the rows of 20_memory.md R62 that own bytes: [300,302) is inside the LTAS row. -/
def frameLayout : List LayoutRow :=
  [ ⟨.fixedHeader, 0, 4, "byte ordering flag"⟩, ⟨.fixedHeader, 4, 8, "extended header type"⟩,
    ⟨.fixedHeader, 8, 12, "body size"⟩, ⟨.fixedHeader, 12, 16, "blocking size"⟩, ⟨.sips, 16, 32, "EthernetAddress.siteId"⟩,
    ⟨.sips, 32, 48, "EthernetAddress.systemName"⟩, ⟨.sips, 48, 64, "EthernetAddress.logicalUnitName"⟩,
    ⟨.sips, 64, 68, "EthernetAddress.addressType"⟩, ⟨.sips, 68, 100, "EthernetAddress.boxId"⟩,
    ⟨.sips, 100, 104, "EthernetAddress.taskId"⟩, ⟨.sips, 104, 112, "EthernetAddress.spare"⟩ ] ++
  [ ⟨.sips, 112, 116, "TargetPosition.rangeAvailable"⟩, ⟨.sips, 116, 120, "TargetPosition.timestamp.year"⟩,
    ⟨.sips, 120, 124, "TargetPosition.timestamp.dayOfYear"⟩, ⟨.sips, 124, 128, "TargetPosition.timestamp.secondsGmt"⟩,
    ⟨.sips, 128, 132, "TargetPosition.timestamp.microseconds"⟩, ⟨.sips, 132, 140, "TargetPosition.trackerLat"⟩,
    ⟨.sips, 140, 148, "TargetPosition.trackerLon"⟩, ⟨.sips, 148, 156, "TargetPosition.trackerHeight"⟩,
    ⟨.sips, 156, 164, "TargetPosition.targetAzimuth"⟩, ⟨.sips, 164, 172, "TargetPosition.targetElevation"⟩,
    ⟨.sips, 172, 180, "TargetPosition.targetRange"⟩, ⟨.sips, 180, 184, "TargetPosition.siteId"⟩,
    ⟨.sips, 184, 185, "TargetPosition.dataQuality"⟩, ⟨.sips, 185, 208, "TargetPosition.spare"⟩ ] ++
  [ ⟨.sips, 208, 224, "EthernetId.group"⟩, ⟨.sips, 224, 228, "EthernetId.category"⟩, ⟨.sips, 228, 232, "EthernetId.type"⟩,
    ⟨.sips, 232, 236, "EthernetId.unit"⟩, ⟨.sips, 236, 240, "EthernetId.id"⟩, ⟨.sips, 240, 244, "EthernetId.certified"⟩,
    ⟨.sips, 244, 248, "EthernetId.priority"⟩, ⟨.sips, 248, 252, "EthernetId.securityKey"⟩,
    ⟨.sips, 252, 256, "Timestamp.year"⟩, ⟨.sips, 256, 260, "Timestamp.dayOfYear"⟩,
    ⟨.sips, 260, 264, "Timestamp.secondsGmt"⟩, ⟨.sips, 264, 268, "Timestamp.microseconds"⟩,
    ⟨.sips, 268, 272, "SIPS.spare"⟩, ⟨.ltas, 272, 302, "LTAS"⟩ ]

/-- The layout rows that hold byte `a` (20_memory.md R62: "every byte of [0,302) belongs to exactly one row"). -/
def layoutRowsAt (a : Nat) : List LayoutRow := frameLayout.filter (fun r => r.lo ≤ a && a < r.hi)

end Sys2Proof.Machine
end

