-- ==== Sys2Proof/Machine/FixedHeader.lean ====
section
/-! DEFINITION. FixedHeaderDecoder: frame bytes [0,16) (42_fixed_header.md R190 to R197). -/

namespace Sys2Proof.Machine

/-- `byteOrder` (R192). -/
inductive ByteOrder where
  | little
  | big
  | unknown
  deriving DecidableEq, Repr

/-- R192: 0xFFFFFFFF is Little, 0x00000000 is Big, any other flag Unknown. -/
def ByteOrder.ofRaw (raw : Nat) : ByteOrder :=
  if raw = 0xFFFFFFFF then .little else if raw = 0x00000000 then .big else .unknown

/-- The codes Little(0), Big(1), Unknown(2) (R192; 92 D11). -/
def ByteOrder.code : ByteOrder → Nat
  | .little => 0
  | .big => 1
  | .unknown => 2

/-- `extendedHeaderType` (R195). -/
inductive ExtHeaderType where
  | noHeader
  | standard
  | donna
  | sips
  | unknown
  deriving DecidableEq, Repr

/-- R195: 0 to 3 are named, "the raw value is compared as a whole u32". -/
def ExtHeaderType.ofRaw (raw : Nat) : ExtHeaderType :=
  if raw = 0 then .noHeader else if raw = 1 then .standard else if raw = 2 then .donna else if raw = 3 then .sips else .unknown

/-- The codes None(0), Standard(1), Donna(2), Sips(3), Unknown(4) (R195). -/
def ExtHeaderType.code : ExtHeaderType → Nat
  | .noHeader => 0
  | .standard => 1
  | .donna => 2
  | .sips => 3
  | .unknown => 4

/-- `FH_BORDER_RAW` (R191). -/
def Frame.fhBorderRaw (F : Frame) : Nat := F.be 0 4

/-- `FH_BORDER` (R192). -/
def Frame.fhBorder (F : Frame) : ByteOrder := .ofRaw F.fhBorderRaw

/-- `FH_EXTTYPE_RAW` (R194). -/
def Frame.fhExtTypeRaw (F : Frame) : Nat := F.be 4 4

/-- `FH_EXTTYPE` (R195). -/
def Frame.fhExtType (F : Frame) : ExtHeaderType := .ofRaw F.fhExtTypeRaw

/-- `FH_BODYSIZE`, no range constraint (R196). -/
def Frame.fhBodySize (F : Frame) : Nat := F.be 8 4

/-- `FH_BLOCKSIZE`, no range constraint (R197). -/
def Frame.fhBlockSize (F : Frame) : Nat := F.be 12 4

end Sys2Proof.Machine
end

