-- ==== Sys2Proof/Machine/LtasFrame.lean ====
section
/-! DEFINITION. LtasFrameDecoder: the bit-field demultiplexer over the 240-bit section [272,302) (44_ltas_frame.md R260 to R306).
No scale factor is applied to any value (R306), and the checksum is extracted but never verified (R302). -/

namespace Sys2Proof.Machine

/-- The 31 fields of the LTAS section, in bit order (R260). -/
inductive LtasField where
  | satelliteId
  | vehicleId
  | dayOfYear
  | formatType
  | timeOfDayTenths
  | timeOfDaySeconds
  | siteId
  | ePosition
  | eSign
  | positionScale
  | fPosition
  | fSign
  | velocityScale
  | gPosition
  | gSign
  | opticalTrackBit
  | plusTimeFlag
  | fVelocity
  | fVelSign
  | eVelocity
  | eVelSign
  | liftoff
  | plunge
  | pulseWidth
  | flags
  | mode
  | gVelocity
  | gVelSign
  | checksum
  | spare
  | syncBits
  deriving DecidableEq, Repr

/-- The 31 rows of the field map in its order (R260). -/
def LtasField.all : List LtasField :=
  ([.satelliteId, .vehicleId, .dayOfYear, .formatType, .timeOfDayTenths, .timeOfDaySeconds, .siteId, .ePosition, .eSign,
   .positionScale, .fPosition, .fSign, .velocityScale, .gPosition, .gSign, .opticalTrackBit, .plusTimeFlag] : List LtasField) ++
  ([.fVelocity, .fVelSign, .eVelocity, .eVelSign, .liftoff, .plunge, .pulseWidth, .flags, .mode, .gVelocity, .gVelSign,
   .checksum, .spare, .syncBits] : List LtasField)

/-- The source bits `[a-b]` of a field, 1-indexed and inclusive (R260). -/
def LtasField.sourceBits : LtasField → Nat × Nat
  | .satelliteId => (1, 13)
  | .vehicleId => (14, 17)
  | .dayOfYear => (18, 26)
  | .formatType => (27, 30)
  | .timeOfDayTenths => (31, 34)
  | .timeOfDaySeconds => (35, 51)
  | .siteId => (52, 60)
  | .ePosition => (61, 87)
  | .eSign => (88, 88)
  | .positionScale => (89, 90)
  | .fPosition => (91, 117)
  | .fSign => (118, 118)
  | .velocityScale => (119, 120)
  | .gPosition => (121, 147)
  | .gSign => (148, 148)
  | .opticalTrackBit => (149, 149)
  | .plusTimeFlag => (150, 150)
  | .fVelocity => (151, 164)
  | .fVelSign => (165, 165)
  | .eVelocity => (166, 179)
  | .eVelSign => (180, 180)
  | .liftoff => (181, 181)
  | .plunge => (182, 182)
  | .pulseWidth => (183, 184)
  | .flags => (185, 192)
  | .mode => (193, 195)
  | .gVelocity => (196, 209)
  | .gVelSign => (210, 210)
  | .checksum => (211, 217)
  | .spare => (218, 224)
  | .syncBits => (225, 240)

/-- "Every LTAS field value is `lbits(a, b)` for its source range" (R261). -/
def Frame.ltasField (F : Frame) (f : LtasField) : Nat := F.lbits f.sourceBits.1 f.sourceBits.2

/-- `positionScale`: all four codes are named (R274). -/
inductive PositionScale where
  | x1
  | x10
  | x10e3
  | x10e10
  deriving DecidableEq, Repr

/-- The scale of a 2-bit code (R274). -/
def PositionScale.ofCode (c : Nat) : PositionScale :=
  if c = 0 then .x1 else if c = 1 then .x10 else if c = 2 then .x10e3 else .x10e10

/-- A named variant's code is its raw code (R274; 92 D11). -/
def PositionScale.code : PositionScale → Nat
  | .x1 => 0
  | .x10 => 1
  | .x10e3 => 2
  | .x10e10 => 3

/-- The factors, the source's literals 10e3 and 10e10 with their numeric meaning (R274, R275). -/
def PositionScale.factor : PositionScale → Nat
  | .x1 => 1
  | .x10 => 10
  | .x10e3 => 10000
  | .x10e10 => 100000000000

/-- `velocityScale` (R280). -/
inductive VelocityScale where
  | x1
  | x10
  | invalid
  deriving DecidableEq, Repr

/-- R280: 0 x1, 1 x10, 2 and 3 invalid. -/
def VelocityScale.ofRaw (raw : Nat) : VelocityScale := if raw = 0 then .x1 else if raw = 1 then .x10 else .invalid

/-- The codes x1(0), x10(1), invalid(2) (R280). -/
def VelocityScale.code : VelocityScale → Nat
  | .x1 => 0
  | .x10 => 1
  | .invalid => 2

/-- 1, 10, and 0 for invalid (R281). -/
def VelocityScale.factor : VelocityScale → Nat
  | .x1 => 1
  | .x10 => 10
  | .invalid => 0

/-- `pulseWidth`: all four codes are named (R295). -/
inductive PulseWidth where
  | us1p0
  | us2p4
  | us5p0
  | us10p0
  deriving DecidableEq, Repr

/-- The pulse width of a 2-bit code (R295). -/
def PulseWidth.ofCode (c : Nat) : PulseWidth :=
  if c = 0 then .us1p0 else if c = 1 then .us2p4 else if c = 2 then .us5p0 else .us10p0

/-- A named variant's code is its raw code (R295; 92 D11). -/
def PulseWidth.code : PulseWidth → Nat
  | .us1p0 => 0
  | .us2p4 => 1
  | .us5p0 => 2
  | .us10p0 => 3

/-- The width in tenths of a microsecond (R296). -/
def PulseWidth.tenthsUs : PulseWidth → Nat
  | .us1p0 => 10
  | .us2p4 => 24
  | .us5p0 => 50
  | .us10p0 => 100

/-- `mode` (R298). -/
inductive LtasMode where
  | manual
  | onAxisPoweredFlight
  | computerDrive
  | autotrackCoast
  | autotrack
  | onAxisCoast
  | onAxisOrbital
  | unknown
  deriving DecidableEq, Repr

/-- R298: 0 to 6 are named, 7 is Unknown. -/
def LtasMode.ofRaw (raw : Nat) : LtasMode :=
  if raw = 0 then .manual else if raw = 1 then .onAxisPoweredFlight else if raw = 2 then .computerDrive
  else if raw = 3 then .autotrackCoast else if raw = 4 then .autotrack else if raw = 5 then .onAxisCoast
  else if raw = 6 then .onAxisOrbital else .unknown

/-- "The mode, whose code is its raw value" (R298). -/
def LtasMode.code : LtasMode → Nat
  | .manual => 0
  | .onAxisPoweredFlight => 1
  | .computerDrive => 2
  | .autotrackCoast => 3
  | .autotrack => 4
  | .onAxisCoast => 5
  | .onAxisOrbital => 6
  | .unknown => 7

/-- The eight one-bit flags of `LT_FLAGS` (R297). -/
inductive LtasFlag where
  | refractionCorrection
  | droop
  | paramp
  | radiation
  | localOscillators
  | beaconSkin
  | trackBit
  | qualityBit
  deriving DecidableEq, Repr

/-- The source bit of a flag, 185 to 192 (R297). -/
def LtasFlag.sourceBit : LtasFlag → Nat
  | .refractionCorrection => 185
  | .droop => 186
  | .paramp => 187
  | .radiation => 188
  | .localOscillators => 189
  | .beaconSkin => 190
  | .trackBit => 191
  | .qualityBit => 192

/-- "Each flag is true when its bit is 1" (R297). -/
def Frame.ltFlag (F : Frame) (f : LtasFlag) : Bool := F.lbits f.sourceBit f.sourceBit == 1

/-- `LT_SATID` (R264). -/
def Frame.ltSatId (F : Frame) : Nat := F.ltasField .satelliteId

/-- `LT_VEHID` (R265). -/
def Frame.ltVehId (F : Frame) : Nat := F.ltasField .vehicleId

/-- `LT_DOY` (R266). -/
def Frame.ltDoy (F : Frame) : Nat := F.ltasField .dayOfYear

/-- `LT_FMT` (R267). -/
def Frame.ltFmt (F : Frame) : Nat := F.ltasField .formatType

/-- `LT_TODT`, the raw code (R268). -/
def Frame.ltTodt (F : Frame) : Nat := F.ltasField .timeOfDayTenths

/-- `LT_TODS` (R269). -/
def Frame.ltTods (F : Frame) : Nat := F.ltasField .timeOfDaySeconds

/-- `LT_SITEID` (R270). -/
def Frame.ltSiteId (F : Frame) : Nat := F.ltasField .siteId

/-- `LT_EPOS_MAG` (R271). -/
def Frame.ltEposMag (F : Frame) : Nat := F.ltasField .ePosition

/-- `LT_EPOS_SIGN` (R272). -/
def Frame.ltEposSign (F : Frame) : Nat := F.ltasField .eSign

/-- `LT_EPOS_CORR` (R273). -/
def Frame.ltEposCorr (F : Frame) : Int := corr 27 F.ltEposMag F.ltEposSign

/-- `LT_PSCALE`, the positionScale code (R274). -/
def Frame.ltPscale (F : Frame) : Nat := F.ltasField .positionScale

/-- `positionScale`, the named variant of the code (R274). -/
def Frame.ltPositionScale (F : Frame) : PositionScale := .ofCode F.ltPscale

/-- `LT_FPOS_MAG` (R276). -/
def Frame.ltFposMag (F : Frame) : Nat := F.ltasField .fPosition

/-- `LT_FPOS_SIGN` (R277). -/
def Frame.ltFposSign (F : Frame) : Nat := F.ltasField .fSign

/-- `LT_FPOS_CORR` (R278). -/
def Frame.ltFposCorr (F : Frame) : Int := corr 27 F.ltFposMag F.ltFposSign

/-- `LT_VSCALE_RAW` (R279). -/
def Frame.ltVscaleRaw (F : Frame) : Nat := F.ltasField .velocityScale

/-- `velocityScale`, the named variant of the raw code (R280). -/
def Frame.ltVelocityScale (F : Frame) : VelocityScale := .ofRaw F.ltVscaleRaw

/-- `LT_GPOS_MAG` (R282). -/
def Frame.ltGposMag (F : Frame) : Nat := F.ltasField .gPosition

/-- `LT_GPOS_SIGN` (R283). -/
def Frame.ltGposSign (F : Frame) : Nat := F.ltasField .gSign

/-- `LT_GPOS_CORR` (R284). -/
def Frame.ltGposCorr (F : Frame) : Int := corr 27 F.ltGposMag F.ltGposSign

/-- `LT_OPTTRK` (R285). -/
def Frame.ltOptTrk (F : Frame) : Nat := F.ltasField .opticalTrackBit

/-- `LT_PLUSTIME` (R286). -/
def Frame.ltPlusTime (F : Frame) : Nat := F.ltasField .plusTimeFlag

/-- `LT_FVEL_MAG` (R287). -/
def Frame.ltFvelMag (F : Frame) : Nat := F.ltasField .fVelocity

/-- `LT_FVEL_SIGN` (R288). -/
def Frame.ltFvelSign (F : Frame) : Nat := F.ltasField .fVelSign

/-- `LT_FVEL_CORR` (R289). -/
def Frame.ltFvelCorr (F : Frame) : Int := corr 14 F.ltFvelMag F.ltFvelSign

/-- `LT_EVEL_MAG` (R290). -/
def Frame.ltEvelMag (F : Frame) : Nat := F.ltasField .eVelocity

/-- `LT_EVEL_SIGN` (R291). -/
def Frame.ltEvelSign (F : Frame) : Nat := F.ltasField .eVelSign

/-- `LT_EVEL_CORR` (R292). -/
def Frame.ltEvelCorr (F : Frame) : Int := corr 14 F.ltEvelMag F.ltEvelSign

/-- `LT_LIFTOFF` (R293). -/
def Frame.ltLiftoff (F : Frame) : Nat := F.ltasField .liftoff

/-- `LT_PLUNGE` (R294). -/
def Frame.ltPlunge (F : Frame) : Nat := F.ltasField .plunge

/-- `LT_PW`, the pulseWidth code (R295). -/
def Frame.ltPw (F : Frame) : Nat := F.ltasField .pulseWidth

/-- `pulseWidth`, the named variant of the code (R295). -/
def Frame.ltPulseWidth (F : Frame) : PulseWidth := .ofCode F.ltPw

/-- `LT_FLAGS`, source bit 185 in bit 0 (R297). -/
def Frame.ltFlags (F : Frame) : Nat := F.ltasField .flags

/-- `LT_MODE`, the mode, "whose code is its raw value" (R298). -/
def Frame.ltMode (F : Frame) : Nat := F.ltasField .mode

/-- `mode`, the named variant of the code (R298). -/
def Frame.ltModeName (F : Frame) : LtasMode := .ofRaw F.ltMode

/-- `LT_GVEL_MAG` (R299). -/
def Frame.ltGvelMag (F : Frame) : Nat := F.ltasField .gVelocity

/-- `LT_GVEL_SIGN` (R300). -/
def Frame.ltGvelSign (F : Frame) : Nat := F.ltasField .gVelSign

/-- `LT_GVEL_CORR` (R301). -/
def Frame.ltGvelCorr (F : Frame) : Int := corr 14 F.ltGvelMag F.ltGvelSign

/-- `LT_CHECKSUM`, "returned as read" and not verified (R302). -/
def Frame.ltChecksum (F : Frame) : Nat := F.ltasField .checksum

/-- `LT_SPARE` (R303). -/
def Frame.ltSpare (F : Frame) : Nat := F.ltasField .spare

/-- `LT_SYNCBITS`, the little-endian reading of the sync bytes (R304). -/
def Frame.ltSyncBits (F : Frame) : Nat := F.ltasField .syncBits

/-- What a host that knows the ICD's algorithm computes from the frame it has read; no part of FDEC calls it (R302; 00_scope.md
R10, `CHECKSUM_FN`). -/
def Frame.hostChecksumHolds (F : Frame) : Bool := Config.checksumFn F

end Sys2Proof.Machine
end

