-- ==== Sys2Proof/Machine/SipsHeader.lean ====
section
/-! DEFINITION. SipsHeaderDecoder: frame bytes [16,272), the four groups EthernetAddress, TargetPosition, EthernetId and
Timestamp (43_sips_header.md R210 to R252). The spare bytes [104,112), [185,208) and [268,272) are read by nothing here (R220,
R235, R251). -/

namespace Sys2Proof.Machine

/-- `addressType` (R217). -/
inductive AddressType where
  | socket
  | windowsPipe
  | unknown
  deriving DecidableEq, Repr

/-- R217: 0 Socket, 1 WindowsPipe, otherwise Unknown. -/
def AddressType.ofRaw (raw : Nat) : AddressType := if raw = 0 then .socket else if raw = 1 then .windowsPipe else .unknown

/-- The codes Socket(0), WindowsPipe(1), Unknown(2) (R217). -/
def AddressType.code : AddressType → Nat
  | .socket => 0
  | .windowsPipe => 1
  | .unknown => 2

/-- `rangeAvailable` (R222). -/
inductive RangeAvailability where
  | no
  | yes
  | unknown
  deriving DecidableEq, Repr

/-- R222: 0 No, 1 Yes, otherwise Unknown. -/
def RangeAvailability.ofRaw (raw : Nat) : RangeAvailability := if raw = 0 then .no else if raw = 1 then .yes else .unknown

/-- The codes No(0), Yes(1), Unknown(2) (R222). -/
def RangeAvailability.code : RangeAvailability → Nat
  | .no => 0
  | .yes => 1
  | .unknown => 2

/-- `category` (R238). -/
inductive Category where
  | command
  | data
  | status
  | unknown
  deriving DecidableEq, Repr

/-- R238: 0 Command, 1 Data, 2 Status, otherwise Unknown. -/
def Category.ofRaw (raw : Nat) : Category :=
  if raw = 0 then .command else if raw = 1 then .data else if raw = 2 then .status else .unknown

/-- The codes Command(0), Data(1), Status(2), Unknown(3) (R238). -/
def Category.code : Category → Nat
  | .command => 0
  | .data => 1
  | .status => 2
  | .unknown => 3

/-- `type` of EthernetId (R240). -/
inductive MessageType where
  | query
  | mddf
  | ltas
  | time
  | execute
  | unknown
  deriving DecidableEq, Repr

/-- R240: 0 Query, 1 MDDF, 2 LTAS, 3 TIME, 4 Execute, otherwise Unknown. -/
def MessageType.ofRaw (raw : Nat) : MessageType :=
  if raw = 0 then .query else if raw = 1 then .mddf else if raw = 2 then .ltas
  else if raw = 3 then .time else if raw = 4 then .execute else .unknown

/-- The codes Query(0) to Execute(4), Unknown(5) (R240). -/
def MessageType.code : MessageType → Nat
  | .query => 0
  | .mddf => 1
  | .ltas => 2
  | .time => 3
  | .execute => 4
  | .unknown => 5

/-- `certified` (R244). -/
inductive Certified where
  | no
  | yes
  | unknown
  deriving DecidableEq, Repr

/-- R244: 0 No, 1 Yes, otherwise Unknown. -/
def Certified.ofRaw (raw : Nat) : Certified := if raw = 0 then .no else if raw = 1 then .yes else .unknown

/-- The codes No(0), Yes(1), Unknown(2) (R244). -/
def Certified.code : Certified → Nat
  | .no => 0
  | .yes => 1
  | .unknown => 2

section EthernetAddress

/-- `EA_SITEID_LEN` (R213). -/
def Frame.eaSiteIdLen (F : Frame) : Nat := F.tlen 16 16

/-- `EA_SYSNAME_LEN` (R214). -/
def Frame.eaSysNameLen (F : Frame) : Nat := F.tlen 32 16

/-- `EA_LUNAME_LEN` (R215). -/
def Frame.eaLuNameLen (F : Frame) : Nat := F.tlen 48 16

/-- `EA_ADDRTYPE_RAW` (R216). -/
def Frame.eaAddrTypeRaw (F : Frame) : Nat := F.be 64 4

/-- `EA_ADDRTYPE` (R217). -/
def Frame.eaAddrType (F : Frame) : AddressType := .ofRaw F.eaAddrTypeRaw

/-- `EA_BOXID_LEN` (R218). -/
def Frame.eaBoxIdLen (F : Frame) : Nat := F.tlen 68 32

/-- `EA_TASKID` (R219). -/
def Frame.eaTaskId (F : Frame) : Nat := F.be 100 4

end EthernetAddress

section TargetPosition

/-- `TP_RANGEAV_RAW` (R221). -/
def Frame.tpRangeAvRaw (F : Frame) : Nat := F.be 112 4

/-- `TP_RANGEAV` (R222). -/
def Frame.tpRangeAv (F : Frame) : RangeAvailability := .ofRaw F.tpRangeAvRaw

/-- `TP_YEAR` (R223). -/
def Frame.tpYear (F : Frame) : Nat := F.be 116 4

/-- `TP_DOY` (R224). -/
def Frame.tpDoy (F : Frame) : Nat := F.be 120 4

/-- `TP_SECS` (R225). -/
def Frame.tpSecs (F : Frame) : Nat := F.be 124 4

/-- `TP_USEC` (R226). -/
def Frame.tpUsec (F : Frame) : Nat := F.be 128 4

/-- `TP_LAT`, the raw binary64 pattern (R227). -/
def Frame.tpLat (F : Frame) : Nat := F.be 132 8

/-- `TP_LON`, the raw binary64 pattern (R228). -/
def Frame.tpLon (F : Frame) : Nat := F.be 140 8

/-- `TP_HGT`, the raw binary64 pattern (R229). -/
def Frame.tpHgt (F : Frame) : Nat := F.be 148 8

/-- `TP_AZ`, the raw binary64 pattern (R230). -/
def Frame.tpAz (F : Frame) : Nat := F.be 156 8

/-- `TP_EL`, the raw binary64 pattern (R231). -/
def Frame.tpEl (F : Frame) : Nat := F.be 164 8

/-- `TP_RANGE`, the raw binary64 pattern (R232). -/
def Frame.tpRange (F : Frame) : Nat := F.be 172 8

/-- `TP_SITEID` (R233). -/
def Frame.tpSiteId (F : Frame) : Nat := F.be 180 4

/-- `TP_DQUAL`, the raw byte (R234). -/
def Frame.tpDqual (F : Frame) : Nat := (F.byte 184).toNat

end TargetPosition

section EthernetId

/-- `EI_GROUP_LEN` (R236). -/
def Frame.eiGroupLen (F : Frame) : Nat := F.tlen 208 16

/-- `EI_CAT_RAW` (R237). -/
def Frame.eiCatRaw (F : Frame) : Nat := F.be 224 4

/-- `EI_CAT` (R238). -/
def Frame.eiCat (F : Frame) : Category := .ofRaw F.eiCatRaw

/-- `EI_TYPE_RAW` (R239). -/
def Frame.eiTypeRaw (F : Frame) : Nat := F.be 228 4

/-- `EI_TYPE` (R240). -/
def Frame.eiType (F : Frame) : MessageType := .ofRaw F.eiTypeRaw

/-- `EI_UNIT` (R241). -/
def Frame.eiUnit (F : Frame) : Nat := F.be 232 4

/-- `EI_ID`, signed (R242). -/
def Frame.eiId (F : Frame) : Int := sext 32 (F.be 236 4)

/-- `EI_CERT_RAW` (R243). -/
def Frame.eiCertRaw (F : Frame) : Nat := F.be 240 4

/-- `EI_CERT` (R244). -/
def Frame.eiCert (F : Frame) : Certified := .ofRaw F.eiCertRaw

/-- `EI_PRIO`, signed (R245). -/
def Frame.eiPrio (F : Frame) : Int := sext 32 (F.be 244 4)

/-- `EI_SECKEY`, `F[248]` in bits [31:24] (R246; 92 D32). -/
def Frame.eiSecKey (F : Frame) : Nat := F.be 248 4

end EthernetId

section Timestamp

/-- `TS_YEAR` (R247). -/
def Frame.tsYear (F : Frame) : Nat := F.be 252 4

/-- `TS_DOY` (R248). -/
def Frame.tsDoy (F : Frame) : Nat := F.be 256 4

/-- `TS_SECS` (R249). -/
def Frame.tsSecs (F : Frame) : Nat := F.be 260 4

/-- `TS_USEC` (R250). -/
def Frame.tsUsec (F : Frame) : Nat := F.be 264 4

end Timestamp

end Sys2Proof.Machine
end

