-- ==== Sys2Proof/Machine/ResultFile.lean ====
section
/-! DEFINITION. The result register file: the TelemetryRecord as 83 read-only registers, each a pure function of the normalised
frame (10_state.md R36), with its number, name, width and signedness, and its 64-bit response (R38). -/

namespace Sys2Proof.Machine

/-- The result registers, in the order of their numbers (10_state.md R36). -/
inductive ResultReg where
  | fhBorderRaw
  | fhBorder
  | fhExtTypeRaw
  | fhExtType
  | fhBodySize
  | fhBlockSize
  | eaSiteIdLen
  | eaSysNameLen
  | eaLuNameLen
  | eaAddrTypeRaw
  | eaAddrType
  | eaBoxIdLen
  | eaTaskId
  | tpRangeAvRaw
  | tpRangeAv
  | tpYear
  | tpDoy
  | tpSecs
  | tpUsec
  | tpLat
  | tpLon
  | tpHgt
  | tpAz
  | tpEl
  | tpRange
  | tpSiteId
  | tpDqual
  | eiGroupLen
  | eiCatRaw
  | eiCat
  | eiTypeRaw
  | eiType
  | eiUnit
  | eiId
  | eiCertRaw
  | eiCert
  | eiPrio
  | eiSecKey
  | tsYear
  | tsDoy
  | tsSecs
  | tsUsec
  | ltSatId
  | ltVehId
  | ltDoy
  | ltFmt
  | ltTodt
  | ltTods
  | ltSiteId
  | ltEposMag
  | ltEposSign
  | ltEposCorr
  | ltPscale
  | ltPscaleFactor
  | ltFposMag
  | ltFposSign
  | ltFposCorr
  | ltVscaleRaw
  | ltVscale
  | ltVscaleFactor
  | ltGposMag
  | ltGposSign
  | ltGposCorr
  | ltOptTrk
  | ltPlusTime
  | ltFvelMag
  | ltFvelSign
  | ltFvelCorr
  | ltEvelMag
  | ltEvelSign
  | ltEvelCorr
  | ltLiftoff
  | ltPlunge
  | ltPw
  | ltPwTenthsUs
  | ltFlags
  | ltMode
  | ltGvelMag
  | ltGvelSign
  | ltGvelCorr
  | ltChecksum
  | ltSpare
  | ltSyncBits
  deriving DecidableEq, Repr

/-- The rows of the register table, in its order (10_state.md R36). -/
def ResultReg.all : List ResultReg :=
  ([.fhBorderRaw, .fhBorder, .fhExtTypeRaw, .fhExtType, .fhBodySize, .fhBlockSize] : List ResultReg) ++
  ([.eaSiteIdLen, .eaSysNameLen, .eaLuNameLen, .eaAddrTypeRaw, .eaAddrType, .eaBoxIdLen, .eaTaskId] : List ResultReg) ++
  ([.tpRangeAvRaw, .tpRangeAv, .tpYear, .tpDoy, .tpSecs, .tpUsec, .tpLat, .tpLon, .tpHgt, .tpAz, .tpEl, .tpRange,
     .tpSiteId, .tpDqual] : List ResultReg) ++
  ([.eiGroupLen, .eiCatRaw, .eiCat, .eiTypeRaw, .eiType, .eiUnit, .eiId, .eiCertRaw, .eiCert, .eiPrio, .eiSecKey] : List ResultReg) ++
  ([.tsYear, .tsDoy, .tsSecs, .tsUsec] : List ResultReg) ++
  ([.ltSatId, .ltVehId, .ltDoy, .ltFmt, .ltTodt, .ltTods, .ltSiteId, .ltEposMag, .ltEposSign, .ltEposCorr, .ltPscale,
     .ltPscaleFactor, .ltFposMag, .ltFposSign, .ltFposCorr, .ltVscaleRaw, .ltVscale, .ltVscaleFactor, .ltGposMag,
     .ltGposSign, .ltGposCorr, .ltOptTrk, .ltPlusTime, .ltFvelMag] : List ResultReg) ++
  ([.ltFvelSign, .ltFvelCorr, .ltEvelMag, .ltEvelSign, .ltEvelCorr, .ltLiftoff, .ltPlunge, .ltPw, .ltPwTenthsUs,
     .ltFlags, .ltMode, .ltGvelMag, .ltGvelSign, .ltGvelCorr, .ltChecksum, .ltSpare, .ltSyncBits] : List ResultReg)

/-- The register number (10_state.md R36). -/
def ResultReg.number : ResultReg → Nat
  | .fhBorderRaw => 0x010
  | .fhBorder => 0x011
  | .fhExtTypeRaw => 0x012
  | .fhExtType => 0x013
  | .fhBodySize => 0x014
  | .fhBlockSize => 0x015
  | .eaSiteIdLen => 0x020
  | .eaSysNameLen => 0x021
  | .eaLuNameLen => 0x022
  | .eaAddrTypeRaw => 0x023
  | .eaAddrType => 0x024
  | .eaBoxIdLen => 0x025
  | .eaTaskId => 0x026
  | .tpRangeAvRaw => 0x030
  | .tpRangeAv => 0x031
  | .tpYear => 0x032
  | .tpDoy => 0x033
  | .tpSecs => 0x034
  | .tpUsec => 0x035
  | .tpLat => 0x036
  | .tpLon => 0x037
  | .tpHgt => 0x038
  | .tpAz => 0x039
  | .tpEl => 0x03A
  | .tpRange => 0x03B
  | .tpSiteId => 0x03C
  | .tpDqual => 0x03D
  | .eiGroupLen => 0x040
  | .eiCatRaw => 0x041
  | .eiCat => 0x042
  | .eiTypeRaw => 0x043
  | .eiType => 0x044
  | .eiUnit => 0x045
  | .eiId => 0x046
  | .eiCertRaw => 0x047
  | .eiCert => 0x048
  | .eiPrio => 0x049
  | .eiSecKey => 0x04A
  | .tsYear => 0x050
  | .tsDoy => 0x051
  | .tsSecs => 0x052
  | .tsUsec => 0x053
  | .ltSatId => 0x060
  | .ltVehId => 0x061
  | .ltDoy => 0x062
  | .ltFmt => 0x063
  | .ltTodt => 0x064
  | .ltTods => 0x065
  | .ltSiteId => 0x066
  | .ltEposMag => 0x067
  | .ltEposSign => 0x068
  | .ltEposCorr => 0x069
  | .ltPscale => 0x06A
  | .ltPscaleFactor => 0x06B
  | .ltFposMag => 0x06C
  | .ltFposSign => 0x06D
  | .ltFposCorr => 0x06E
  | .ltVscaleRaw => 0x06F
  | .ltVscale => 0x070
  | .ltVscaleFactor => 0x071
  | .ltGposMag => 0x072
  | .ltGposSign => 0x073
  | .ltGposCorr => 0x074
  | .ltOptTrk => 0x075
  | .ltPlusTime => 0x076
  | .ltFvelMag => 0x077
  | .ltFvelSign => 0x078
  | .ltFvelCorr => 0x079
  | .ltEvelMag => 0x07A
  | .ltEvelSign => 0x07B
  | .ltEvelCorr => 0x07C
  | .ltLiftoff => 0x07D
  | .ltPlunge => 0x07E
  | .ltPw => 0x07F
  | .ltPwTenthsUs => 0x080
  | .ltFlags => 0x081
  | .ltMode => 0x082
  | .ltGvelMag => 0x083
  | .ltGvelSign => 0x084
  | .ltGvelCorr => 0x085
  | .ltChecksum => 0x086
  | .ltSpare => 0x087
  | .ltSyncBits => 0x088

/-- The register's name (10_state.md R36). -/
def ResultReg.name : ResultReg → String
  | .fhBorderRaw => "FH_BORDER_RAW"
  | .fhBorder => "FH_BORDER"
  | .fhExtTypeRaw => "FH_EXTTYPE_RAW"
  | .fhExtType => "FH_EXTTYPE"
  | .fhBodySize => "FH_BODYSIZE"
  | .fhBlockSize => "FH_BLOCKSIZE"
  | .eaSiteIdLen => "EA_SITEID_LEN"
  | .eaSysNameLen => "EA_SYSNAME_LEN"
  | .eaLuNameLen => "EA_LUNAME_LEN"
  | .eaAddrTypeRaw => "EA_ADDRTYPE_RAW"
  | .eaAddrType => "EA_ADDRTYPE"
  | .eaBoxIdLen => "EA_BOXID_LEN"
  | .eaTaskId => "EA_TASKID"
  | .tpRangeAvRaw => "TP_RANGEAV_RAW"
  | .tpRangeAv => "TP_RANGEAV"
  | .tpYear => "TP_YEAR"
  | .tpDoy => "TP_DOY"
  | .tpSecs => "TP_SECS"
  | .tpUsec => "TP_USEC"
  | .tpLat => "TP_LAT"
  | .tpLon => "TP_LON"
  | .tpHgt => "TP_HGT"
  | .tpAz => "TP_AZ"
  | .tpEl => "TP_EL"
  | .tpRange => "TP_RANGE"
  | .tpSiteId => "TP_SITEID"
  | .tpDqual => "TP_DQUAL"
  | .eiGroupLen => "EI_GROUP_LEN"
  | .eiCatRaw => "EI_CAT_RAW"
  | .eiCat => "EI_CAT"
  | .eiTypeRaw => "EI_TYPE_RAW"
  | .eiType => "EI_TYPE"
  | .eiUnit => "EI_UNIT"
  | .eiId => "EI_ID"
  | .eiCertRaw => "EI_CERT_RAW"
  | .eiCert => "EI_CERT"
  | .eiPrio => "EI_PRIO"
  | .eiSecKey => "EI_SECKEY"
  | .tsYear => "TS_YEAR"
  | .tsDoy => "TS_DOY"
  | .tsSecs => "TS_SECS"
  | .tsUsec => "TS_USEC"
  | .ltSatId => "LT_SATID"
  | .ltVehId => "LT_VEHID"
  | .ltDoy => "LT_DOY"
  | .ltFmt => "LT_FMT"
  | .ltTodt => "LT_TODT"
  | .ltTods => "LT_TODS"
  | .ltSiteId => "LT_SITEID"
  | .ltEposMag => "LT_EPOS_MAG"
  | .ltEposSign => "LT_EPOS_SIGN"
  | .ltEposCorr => "LT_EPOS_CORR"
  | .ltPscale => "LT_PSCALE"
  | .ltPscaleFactor => "LT_PSCALE_FACTOR"
  | .ltFposMag => "LT_FPOS_MAG"
  | .ltFposSign => "LT_FPOS_SIGN"
  | .ltFposCorr => "LT_FPOS_CORR"
  | .ltVscaleRaw => "LT_VSCALE_RAW"
  | .ltVscale => "LT_VSCALE"
  | .ltVscaleFactor => "LT_VSCALE_FACTOR"
  | .ltGposMag => "LT_GPOS_MAG"
  | .ltGposSign => "LT_GPOS_SIGN"
  | .ltGposCorr => "LT_GPOS_CORR"
  | .ltOptTrk => "LT_OPTTRK"
  | .ltPlusTime => "LT_PLUSTIME"
  | .ltFvelMag => "LT_FVEL_MAG"
  | .ltFvelSign => "LT_FVEL_SIGN"
  | .ltFvelCorr => "LT_FVEL_CORR"
  | .ltEvelMag => "LT_EVEL_MAG"
  | .ltEvelSign => "LT_EVEL_SIGN"
  | .ltEvelCorr => "LT_EVEL_CORR"
  | .ltLiftoff => "LT_LIFTOFF"
  | .ltPlunge => "LT_PLUNGE"
  | .ltPw => "LT_PW"
  | .ltPwTenthsUs => "LT_PW_TENTHS_US"
  | .ltFlags => "LT_FLAGS"
  | .ltMode => "LT_MODE"
  | .ltGvelMag => "LT_GVEL_MAG"
  | .ltGvelSign => "LT_GVEL_SIGN"
  | .ltGvelCorr => "LT_GVEL_CORR"
  | .ltChecksum => "LT_CHECKSUM"
  | .ltSpare => "LT_SPARE"
  | .ltSyncBits => "LT_SYNCBITS"

/-- The number of significant bits (10_state.md R36). -/
def ResultReg.width : ResultReg → Nat
  | .fhBorderRaw => 32
  | .fhBorder => 2
  | .fhExtTypeRaw => 32
  | .fhExtType => 3
  | .fhBodySize => 32
  | .fhBlockSize => 32
  | .eaSiteIdLen => 5
  | .eaSysNameLen => 5
  | .eaLuNameLen => 5
  | .eaAddrTypeRaw => 32
  | .eaAddrType => 2
  | .eaBoxIdLen => 6
  | .eaTaskId => 32
  | .tpRangeAvRaw => 32
  | .tpRangeAv => 2
  | .tpYear => 32
  | .tpDoy => 32
  | .tpSecs => 32
  | .tpUsec => 32
  | .tpLat => 64
  | .tpLon => 64
  | .tpHgt => 64
  | .tpAz => 64
  | .tpEl => 64
  | .tpRange => 64
  | .tpSiteId => 32
  | .tpDqual => 8
  | .eiGroupLen => 5
  | .eiCatRaw => 32
  | .eiCat => 2
  | .eiTypeRaw => 32
  | .eiType => 3
  | .eiUnit => 32
  | .eiId => 32
  | .eiCertRaw => 32
  | .eiCert => 2
  | .eiPrio => 32
  | .eiSecKey => 32
  | .tsYear => 32
  | .tsDoy => 32
  | .tsSecs => 32
  | .tsUsec => 32
  | .ltSatId => 13
  | .ltVehId => 4
  | .ltDoy => 9
  | .ltFmt => 4
  | .ltTodt => 4
  | .ltTods => 17
  | .ltSiteId => 9
  | .ltEposMag => 27
  | .ltEposSign => 1
  | .ltEposCorr => 28
  | .ltPscale => 2
  | .ltPscaleFactor => 37
  | .ltFposMag => 27
  | .ltFposSign => 1
  | .ltFposCorr => 28
  | .ltVscaleRaw => 2
  | .ltVscale => 2
  | .ltVscaleFactor => 4
  | .ltGposMag => 27
  | .ltGposSign => 1
  | .ltGposCorr => 28
  | .ltOptTrk => 1
  | .ltPlusTime => 1
  | .ltFvelMag => 14
  | .ltFvelSign => 1
  | .ltFvelCorr => 15
  | .ltEvelMag => 14
  | .ltEvelSign => 1
  | .ltEvelCorr => 15
  | .ltLiftoff => 1
  | .ltPlunge => 1
  | .ltPw => 2
  | .ltPwTenthsUs => 7
  | .ltFlags => 8
  | .ltMode => 3
  | .ltGvelMag => 14
  | .ltGvelSign => 1
  | .ltGvelCorr => 15
  | .ltChecksum => 7
  | .ltSpare => 7
  | .ltSyncBits => 16

/-- The registers marked `s` (10_state.md R36). -/
def ResultReg.isSigned (q : ResultReg) : Bool :=
  [.eiId, .eiPrio, .ltEposCorr, .ltFposCorr, .ltGposCorr, .ltFvelCorr, .ltEvelCorr, .ltGvelCorr].contains q

/-- A register's value, unsigned or signed. -/
inductive RegValue where
  | unsigned (v : Nat)
  | signed (v : Int)
  deriving DecidableEq, Repr

/-- `ext64`: an unsigned register is zero-extended, a signed one sign-extended (10_state.md R38). -/
def RegValue.ext64 : RegValue → Response
  | .unsigned v => zext64 v
  | .signed v => Sys2Proof.Machine.sext64 v

/-- The value of a result register, by the defining rule that 10_state.md R36 names for it. -/
def ResultReg.value (F : Frame) : ResultReg → RegValue
  | .fhBorderRaw => .unsigned F.fhBorderRaw -- R191
  | .fhBorder => .unsigned F.fhBorder.code -- R192
  | .fhExtTypeRaw => .unsigned F.fhExtTypeRaw -- R194
  | .fhExtType => .unsigned F.fhExtType.code -- R195
  | .fhBodySize => .unsigned F.fhBodySize -- R196
  | .fhBlockSize => .unsigned F.fhBlockSize -- R197
  | .eaSiteIdLen => .unsigned F.eaSiteIdLen -- R213
  | .eaSysNameLen => .unsigned F.eaSysNameLen -- R214
  | .eaLuNameLen => .unsigned F.eaLuNameLen -- R215
  | .eaAddrTypeRaw => .unsigned F.eaAddrTypeRaw -- R216
  | .eaAddrType => .unsigned F.eaAddrType.code -- R217
  | .eaBoxIdLen => .unsigned F.eaBoxIdLen -- R218
  | .eaTaskId => .unsigned F.eaTaskId -- R219
  | .tpRangeAvRaw => .unsigned F.tpRangeAvRaw -- R221
  | .tpRangeAv => .unsigned F.tpRangeAv.code -- R222
  | .tpYear => .unsigned F.tpYear -- R223
  | .tpDoy => .unsigned F.tpDoy -- R224
  | .tpSecs => .unsigned F.tpSecs -- R225
  | .tpUsec => .unsigned F.tpUsec -- R226
  | .tpLat => .unsigned F.tpLat -- R227
  | .tpLon => .unsigned F.tpLon -- R228
  | .tpHgt => .unsigned F.tpHgt -- R229
  | .tpAz => .unsigned F.tpAz -- R230
  | .tpEl => .unsigned F.tpEl -- R231
  | .tpRange => .unsigned F.tpRange -- R232
  | .tpSiteId => .unsigned F.tpSiteId -- R233
  | .tpDqual => .unsigned F.tpDqual -- R234
  | .eiGroupLen => .unsigned F.eiGroupLen -- R236
  | .eiCatRaw => .unsigned F.eiCatRaw -- R237
  | .eiCat => .unsigned F.eiCat.code -- R238
  | .eiTypeRaw => .unsigned F.eiTypeRaw -- R239
  | .eiType => .unsigned F.eiType.code -- R240
  | .eiUnit => .unsigned F.eiUnit -- R241
  | .eiId => .signed F.eiId -- R242
  | .eiCertRaw => .unsigned F.eiCertRaw -- R243
  | .eiCert => .unsigned F.eiCert.code -- R244
  | .eiPrio => .signed F.eiPrio -- R245
  | .eiSecKey => .unsigned F.eiSecKey -- R246
  | .tsYear => .unsigned F.tsYear -- R247
  | .tsDoy => .unsigned F.tsDoy -- R248
  | .tsSecs => .unsigned F.tsSecs -- R249
  | .tsUsec => .unsigned F.tsUsec -- R250
  | .ltSatId => .unsigned F.ltSatId -- R264
  | .ltVehId => .unsigned F.ltVehId -- R265
  | .ltDoy => .unsigned F.ltDoy -- R266
  | .ltFmt => .unsigned F.ltFmt -- R267
  | .ltTodt => .unsigned F.ltTodt -- R268
  | .ltTods => .unsigned F.ltTods -- R269
  | .ltSiteId => .unsigned F.ltSiteId -- R270
  | .ltEposMag => .unsigned F.ltEposMag -- R271
  | .ltEposSign => .unsigned F.ltEposSign -- R272
  | .ltEposCorr => .signed F.ltEposCorr -- R273
  | .ltPscale => .unsigned F.ltPscale -- R274
  | .ltPscaleFactor => .unsigned F.ltPositionScale.factor -- R275
  | .ltFposMag => .unsigned F.ltFposMag -- R276
  | .ltFposSign => .unsigned F.ltFposSign -- R277
  | .ltFposCorr => .signed F.ltFposCorr -- R278
  | .ltVscaleRaw => .unsigned F.ltVscaleRaw -- R279
  | .ltVscale => .unsigned F.ltVelocityScale.code -- R280
  | .ltVscaleFactor => .unsigned F.ltVelocityScale.factor -- R281
  | .ltGposMag => .unsigned F.ltGposMag -- R282
  | .ltGposSign => .unsigned F.ltGposSign -- R283
  | .ltGposCorr => .signed F.ltGposCorr -- R284
  | .ltOptTrk => .unsigned F.ltOptTrk -- R285
  | .ltPlusTime => .unsigned F.ltPlusTime -- R286
  | .ltFvelMag => .unsigned F.ltFvelMag -- R287
  | .ltFvelSign => .unsigned F.ltFvelSign -- R288
  | .ltFvelCorr => .signed F.ltFvelCorr -- R289
  | .ltEvelMag => .unsigned F.ltEvelMag -- R290
  | .ltEvelSign => .unsigned F.ltEvelSign -- R291
  | .ltEvelCorr => .signed F.ltEvelCorr -- R292
  | .ltLiftoff => .unsigned F.ltLiftoff -- R293
  | .ltPlunge => .unsigned F.ltPlunge -- R294
  | .ltPw => .unsigned F.ltPw -- R295
  | .ltPwTenthsUs => .unsigned F.ltPulseWidth.tenthsUs -- R296
  | .ltFlags => .unsigned F.ltFlags -- R297
  | .ltMode => .unsigned F.ltMode -- R298
  | .ltGvelMag => .unsigned F.ltGvelMag -- R299
  | .ltGvelSign => .unsigned F.ltGvelSign -- R300
  | .ltGvelCorr => .signed F.ltGvelCorr -- R301
  | .ltChecksum => .unsigned F.ltChecksum -- R302
  | .ltSpare => .unsigned F.ltSpare -- R303
  | .ltSyncBits => .unsigned F.ltSyncBits -- R304

/-- The response to a read of a result register (10_state.md R38). -/
def ResultReg.response (q : ResultReg) (F : Frame) : Response := (q.value F).ext64

/-- The four status registers (10_state.md R31 to R35). -/
inductive StatusReg where
  | status
  | count
  | syncVal
  | anomaly
  deriving DecidableEq, Repr

/-- The four status registers, in the order of their numbers. -/
def StatusReg.all : List StatusReg := [.status, .count, .syncVal, .anomaly]

/-- The register number (10_state.md R32 to R35). -/
def StatusReg.number : StatusReg → Nat
  | .status => 0x000
  | .count => 0x001
  | .syncVal => 0x002
  | .anomaly => 0x003

/-- The register's name (10_state.md R32 to R35). -/
def StatusReg.name : StatusReg → String
  | .status => "STATUS"
  | .count => "COUNT"
  | .syncVal => "SYNCVAL"
  | .anomaly => "ANOMALY"

/-- An assigned register (10_state.md R31). -/
inductive Register where
  | status (q : StatusReg)
  | result (q : ResultReg)
  deriving DecidableEq, Repr

/-- The register a number stands for; none if it is unassigned (10_state.md R37). -/
def registerOf (r : RegNumber) : Option Register :=
  match StatusReg.all.find? (fun q => q.number == r.toNat) with
  | some q => some (.status q)
  | none => (ResultReg.all.find? (fun q => q.number == r.toNat)).map .result

end Sys2Proof.Machine
end

