-- ==== Sys2Proof/Machine/State.lean ====
section
/-! DEFINITION. The state of one FDEC instance: the seven elements of 10_state.md R22 and the two ends of its command port;
the reasons a step can stop; the state after reset. -/

namespace Sys2Proof.Machine

/-- `STATE`, the buffer state machine (10_state.md R23). -/
inductive BufState where
  /-- 0: "no buffer open, no result". -/
  | idle
  /-- 1: "a buffer is open and bytes may be pushed". -/
  | fill
  /-- 2: "the last buffer decoded; the record is readable". -/
  | ok
  /-- 3: "the last buffer failed with a fatal error; no record". -/
  | err
  deriving DecidableEq, Repr

/-- `ERRCODE`, the fatal error of the last `END` (10_state.md R27). -/
inductive ErrCode where
  /-- 0 `NONE`. -/
  | none
  /-- 1 `TOOSHORT`. -/
  | tooShort
  /-- 2 `BADSYNC`. -/
  | badSync
  /-- 3: "reserved and never written"; the two bits can hold it, no rule writes it. -/
  | reserved
  deriving DecidableEq, Repr

/-- The cause of a command error (60_exceptions.md R331). -/
inductive CmdCause where
  /-- The word matches no row of the opcode map. -/
  | illegal
  /-- The command is not legal in `STATE`. -/
  | wrongState
  /-- An operand is outside the command's accepted range. -/
  | badOperand
  deriving DecidableEq, Repr

/-- What may arrive at the block from outside: a command word on the port (30_encoding.md R100), or the platform's hardware
reset (70_reset_and_hazards.md R350), which may abandon the command word then being executed. -/
inductive PortEvent where
  /-- The host presents a command word. -/
  | command (w : CommandWord)
  /-- The platform asserts the hardware reset, between commands (`none`) or during the command given. -/
  | hardReset (abandoned : Option CommandWord)
  deriving DecidableEq, Repr

/-- The state. The first seven fields are the architectural state (10_state.md R22); `port` and `resps` are the model's own
(log entries 1 and 2): 70_reset_and_hazards.md R356, "a model sees only the sequence of accepted command words and the sequence
of response words". -/
structure State where
  /-- `STATE`, 2 bits (R23). -/
  state : BufState
  /-- `WIN[0..301]` (R24): the bytes that hold a value, at strictly rising addresses; an address not listed holds no value. -/
  win : List Host.Cell
  /-- `CNT`, 32 bits, saturating (R25). -/
  cnt : BitVec 32
  /-- `ERRCODE`, 2 bits (R27). -/
  errCode : ErrCode
  /-- `SYNC`, 16 bits (R28). -/
  sync : BitVec 16
  /-- `ANOM`, 9 bits (R29). -/
  anom : BitVec 9
  /-- `CMDERR`, 1 bit (R30). -/
  cmdErr : Bool
  /-- What the host and the platform will yet present, in order. -/
  port : List PortEvent
  /-- The response words returned so far, oldest first. -/
  resps : List Response
  deriving DecidableEq, Repr

/-- Why a step stops with a fault. -/
inductive Fault where
  /-- A frame read met a `WIN` byte that holds no value (10_state.md R24: "never observable"). Raised by `END` with
  `CNT ≥ 302`, by `RDREG` of a result register in `OK` and by `RDFRM`, `EXTLE`, `RDBE` while `F` is defined, in states that no
  sequence of events from reset reaches. Safe: the spec gives such a state no behaviour (log entry 5). -/
  | windowByteHasNoValue
  deriving DecidableEq, Repr

/-- Why a step refuses. -/
inductive Refusal where
  /-- An instruction with no meaning yet. No arm of `exec` answers it. Safe. -/
  | notModelled (mnemonic : String)
  deriving DecidableEq, Repr

/-- Right after reset (10_state.md R22, R39; 70_reset_and_hazards.md R351). The port and the responses are the model's own
fields: empty (log entries 1 and 2). -/
def State.reset : State where
  state := .idle
  win := []
  cnt := 0#32
  errCode := .none
  sync := 0#16
  anom := 0#9
  cmdErr := false
  port := []
  resps := []

end Sys2Proof.Machine
end

