-- ==== Sys2Proof/Machine/Flags.lean ====
section
/-! DEFINITION. The flags FDEC computes: the anomaly set of a frame (60_exceptions.md R325 to R327) and the status registers
(10_state.md R32 to R35). -/

namespace Sys2Proof.Machine

/-- The nine non-fatal anomalies (60_exceptions.md R325). -/
inductive AnomalyKind where
  | unknownEndianness
  | unknownExtendedHeaderType
  | unknownAddressType
  | unknownRangeAvailability
  | unknownCategory
  | unknownType
  | unknownCertified
  | invalidVelocityScale
  | unknownMode
  deriving DecidableEq, Repr

/-- The bit of `ANOM` an anomaly sets (60_exceptions.md R325). -/
def AnomalyKind.bit : AnomalyKind → Nat
  | .unknownEndianness => 0
  | .unknownExtendedHeaderType => 1
  | .unknownAddressType => 2
  | .unknownRangeAvailability => 3
  | .unknownCategory => 4
  | .unknownType => 5
  | .unknownCertified => 6
  | .invalidVelocityScale => 7
  | .unknownMode => 8

/-- The anomaly is raised when its field decodes to the `Unknown` or `invalid` variant. -/
def raiseIf (c : Bool) (k : AnomalyKind) : List AnomalyKind := if c then [k] else []

/-- What FixedHeaderDecoder raises (42_fixed_header.md R192, R195). -/
def Frame.fixedHeaderAnomalies (F : Frame) : List AnomalyKind :=
  raiseIf (F.fhBorder == .unknown) .unknownEndianness ++
  raiseIf (F.fhExtType == .unknown) .unknownExtendedHeaderType

/-- What SipsHeaderDecoder raises: exactly R217, R222, R238, R240 and R244 (43_sips_header.md R252). -/
def Frame.sipsAnomalies (F : Frame) : List AnomalyKind :=
  raiseIf (F.eaAddrType == .unknown) .unknownAddressType ++
  raiseIf (F.tpRangeAv == .unknown) .unknownRangeAvailability ++
  raiseIf (F.eiCat == .unknown) .unknownCategory ++
  raiseIf (F.eiType == .unknown) .unknownType ++
  raiseIf (F.eiCert == .unknown) .unknownCertified

/-- What LtasFrameDecoder raises: exactly R280 and R298 (44_ltas_frame.md R305). -/
def Frame.ltasAnomalies (F : Frame) : List AnomalyKind :=
  raiseIf (F.ltVelocityScale == .invalid) .invalidVelocityScale ++
  raiseIf (F.ltModeName == .unknown) .unknownMode

/-- The anomalies of the three decoding stages, in the order of their bits (60_exceptions.md R327; 40_control.md R139). -/
def Frame.anomalyList (F : Frame) : List AnomalyKind := F.fixedHeaderAnomalies ++ F.sipsAnomalies ++ F.ltasAnomalies

/-- `anomaly(k)`: set bit k of the anomaly set (00_scope.md R14). -/
def setAnomaly (anom : BitVec 9) (k : AnomalyKind) : BitVec 9 := anom ||| BitVec.twoPow 9 k.bit

/-- `Anomalies(F)` (40_control.md R139; 60_exceptions.md R325, R326). -/
def Frame.anomalies (F : Frame) : BitVec 9 := F.anomalyList.foldl setAnomaly 0#9

/-- The code of `STATE` (10_state.md R23). -/
def BufState.code : BufState → BitVec 2
  | .idle => 0#2
  | .fill => 1#2
  | .ok => 2#2
  | .err => 3#2

/-- The code of `ERRCODE` (10_state.md R27). -/
def ErrCode.code : ErrCode → BitVec 2
  | .none => 0#2
  | .tooShort => 1#2
  | .badSync => 2#2
  | .reserved => 3#2

/-- `ANY_ANOM`: "1 exactly when `ANOM ≠ 0`" (10_state.md R32). -/
def State.anyAnom (s : State) : Bool := s.anom != 0#9

/-- `STATUS = {ANY_ANOM, CMDERR, ERRCODE, STATE}` zero-extended to 64 bits (10_state.md R32). -/
def State.statusWord (s : State) : Response :=
  (BitVec.ofBool s.anyAnom ++ BitVec.ofBool s.cmdErr ++ s.errCode.code ++ s.state.code).zeroExtend 64

/-- The response to a read of a status register (10_state.md R32 to R35). -/
def StatusReg.response (s : State) : StatusReg → Response
  | .status => s.statusWord
  | .count => s.cnt.zeroExtend 64
  | .syncVal => s.sync.zeroExtend 64
  | .anomaly => s.anom.zeroExtend 64

end Sys2Proof.Machine
end

