-- ==== Sys2Proof/Machine/Memory.lean ====
section
/-! DEFINITION. The window `WIN` as memory: the bytes that hold a value, in one canonical form, and the operations over it
(10_state.md R24; 40_control.md R134, R135; 00_scope.md R14). An address not listed holds no value; that is the spec's own reset
content (70_reset_and_hazards.md R351). -/

namespace Sys2Proof.Machine

/-- The window's bytes that hold a value. -/
abbrev Memory := List Host.Cell

/-- The canonical form: addresses strictly rising, all of them in frame space, 0 to 301 (20_memory.md R60). No entry equals what
an unlisted address reads as, since that is no value. -/
abbrev Memory.wf (m : Memory) : Prop :=
  m.Pairwise (fun x y => x.1 < y.1) ∧ ∀ c ∈ m, c.1 < Config.frameLen

/-- Every byte holds no value (70_reset_and_hazards.md R350: `WIN[i] <- (no value)`). -/
def Memory.empty : Memory := []

/-- `WIN[a]`: the byte at address `a`, or none if it holds no value (10_state.md R24). -/
def Memory.read (m : Memory) (a : Nat) : Option Byte := List.lookup a m

/-- `WIN[a] <- b`. -/
def Memory.write : Memory → Nat → Byte → Memory
  | [], a, b => [(a, b)]
  | c :: m, a, b =>
    if a < c.1 then (a, b) :: c :: m
    else if a = c.1 then (a, b) :: m
    else c :: Memory.write m a b

/-- `WIN[i] <- WIN[i+1]` for every i: each byte moves one address down and the byte at address 0 is discarded; "a `WIN` byte
holding no value moves down like any other" (40_control.md R135). -/
def Memory.shiftDown : Memory → Memory
  | [] => []
  | (0, _) :: m => Memory.shiftDown m
  | (a + 1, b) :: m => (a, b) :: Memory.shiftDown m

/-- `MemWrite(_, 1, b)`: the shift of byte `b` into the window (40_control.md R135; 00_scope.md R14). -/
def Memory.pushByte (m : Memory) (b : Byte) : Memory := (m.shiftDown).write 301 b

/-- The `n` bytes from address `a`, if every one of them holds a value. One pass, since the addresses rise (`Memory.wf`). -/
def Memory.readBlock : Memory → Nat → Nat → Option (List Byte)
  | _, _, 0 => some []
  | [], _, _ + 1 => none
  | c :: m, a, n + 1 =>
    if c.1 < a then Memory.readBlock m a (n + 1)
    else if c.1 = a then (Memory.readBlock m (a + 1) n).map (c.2 :: ·)
    else none

/-- The whole window, if every byte holds a value (10_state.md R26: `F[i] = WIN[i]` for every i). -/
def Memory.wholeWindow (m : Memory) : Option (List Byte) := m.readBlock 0 Config.frameLen

end Sys2Proof.Machine
end

