-- ==== Sys2Proof/Machine/Operands.lean ====
section
/-! DEFINITION. The checks a command makes before it executes: whether it is legal in the state, and whether its operands are in
its accepted range (40_control.md R130, R131; 41_readback.md R161 to R165; 60_exceptions.md R329, R331). -/

namespace Sys2Proof.Machine

/-- The outcome of a check: the cause of the command error, or none if it passes. -/
abbrev Check := Option CmdCause

/-- `STATE = FILL`, which `PUSH` and `END` need (40_control.md R131). -/
def requireFill (s : State) : Check := if s.state = .fill then none else some .wrongState

/-- `STATE = OK`, which `RDREG` of a result register needs (40_control.md R131). -/
def requireRecord (s : State) : Check := if s.state = .ok then none else some .wrongState

/-- The normalised frame `F` is defined (10_state.md R26). -/
def State.frameDefined (s : State) : Bool := s.state == .ok || (s.state == .err && s.errCode == .badSync)

/-- `F` is defined, which `RDFRM`, `EXTLE` and `RDBE` need (40_control.md R131). -/
def requireFrame (s : State) : Check := if s.frameDefined then none else some .wrongState

/-- The operands are in the command's accepted range (60_exceptions.md R331). -/
def requireOperand (accepted : Bool) : Check := if accepted then none else some .badOperand

/-- "The first step that fails ends the command as a command error" (40_control.md R130). -/
def Check.andThen (c d : Check) : Check :=
  match c with
  | some cause => some cause
  | none => d

/-- `RDFRM` accepts off <= 301 (41_readback.md R163). -/
def rdfrmAccepts (off : FrameOffset) : Bool := off.toNat ≤ 301

/-- `EXTLE` accepts a start of at least 1, a width of 1 to 32, and a field that ends by bit 240 (41_readback.md R164). -/
def extleAccepts (start : BitVec 8) (width : BitVec 6) : Bool :=
  1 ≤ start.toNat && 1 ≤ width.toNat && width.toNat ≤ Config.extMaxWidth && start.toNat + width.toNat - 1 ≤ Config.ltasBits

/-- `RDBE` accepts off + n <= 302 (41_readback.md R165). -/
def rdbeAccepts (off : FrameOffset) (n : Nat) : Bool := off.toNat + n ≤ Config.frameLen

/-- State, then operand (40_control.md R130). -/
def checkRdfrm (off : FrameOffset) (s : State) : Check := (requireFrame s).andThen (requireOperand (rdfrmAccepts off))

/-- State, then operand (40_control.md R130). -/
def checkExtle (start : BitVec 8) (width : BitVec 6) (s : State) : Check :=
  (requireFrame s).andThen (requireOperand (extleAccepts start width))

/-- State, then operand (40_control.md R130). -/
def checkRdbe (off : FrameOffset) (n : Nat) (s : State) : Check := (requireFrame s).andThen (requireOperand (rdbeAccepts off n))

end Sys2Proof.Machine
end

