-- ==== Sys2Proof/Machine/Ops.lean ====
section
/-! DEFINITION. The named operations the commands share: returning a response, raising a command error, the two fatal errors, the
reset, opening a buffer, reading the normalised frame, taking the next event off the port. FDEC has no trap entry and no trap
return (60_exceptions.md R332, R333): these are all the ways a condition changes the state. -/

namespace Sys2Proof.Machine

/-- The outcome of one command or one step. -/
abbrev StepOutcome := Host.Outcome State Fault Refusal

/-- `resp <- v`: the command returns one response word (00_scope.md R14; 30_encoding.md R112). -/
def State.respond (s : State) (v : Response) : State := { s with resps := s.resps ++ [v] }

/-- `raise CmdError(cause)` for a command word with opcode `opc` (60_exceptions.md R330): `CMDERR <- 1`, a read answers 0, "no
other state changes". "The effect is the same for every cause" (R329), and no element of the state records it (log entry 6). -/
def raiseCmdError (_cause : CmdCause) (opc : Opcode) (s : State) : State :=
  if opcReturnsResponse opc then State.respond { s with cmdErr := true } 0#64 else { s with cmdErr := true }

/-- A command executes if its check passes, and is a command error if not: "a command never both fails and has an effect"
(40_control.md R130; 60_exceptions.md R329). -/
def guarded (c : Check) (opc : Opcode) (s : State) (effect : StepOutcome) : StepOutcome :=
  match c with
  | some cause => .next (raiseCmdError cause opc s)
  | none => effect

/-- `fail TooShort(n)`; n is `CNT` and stays readable there (60_exceptions.md R321). -/
def failTooShort (s : State) : State :=
  { s with state := .err, errCode := .tooShort, sync := 0#16, anom := 0#9 }

/-- `fail BadSync(v)` (60_exceptions.md R322). -/
def failBadSync (v : BitVec 16) (s : State) : State :=
  { s with state := .err, errCode := .badSync, sync := v, anom := 0#9 }

/-- The validator passed: the anomalies are written and the whole record becomes readable at once (40_control.md R137, R140). -/
def acceptRecord (v : BitVec 16) (F : Frame) (s : State) : State :=
  { s with state := .ok, errCode := .none, sync := v, anom := F.anomalies }

/-- Every state element takes its reset value (10_state.md R39; 40_control.md R133; 70_reset_and_hazards.md R350). What the host
has yet to present and what it has received are the host's and stay (log entry 3). -/
def resetElements (s : State) : State := { State.reset with port := s.port, resps := s.resps }

/-- `BEGIN`'s effect (40_control.md R134): a buffer is opened, everything but `CMDERR` is cleared. -/
def openBuffer (s : State) : State :=
  { s with state := .fill, cnt := 0#32, errCode := .none, sync := 0#16, anom := 0#9, win := Memory.empty }

/-- `if CNT < 0xFFFFFFFF: CNT <- CNT + 1` (40_control.md R135; 10_state.md R25). -/
def countUp (c : BitVec 32) : BitVec 32 := if c.toNat < Config.cntMax.toNat then c + 1#32 else c

/-- `PUSH`'s effect (40_control.md R135). -/
def shiftIn (b : Byte) (s : State) : State := { s with win := Memory.pushByte s.win b, cnt := countUp s.cnt }

/-- Run `k` on the normalised frame `F = WIN` (10_state.md R26; 40_control.md R138). A window byte that holds no value is "never
observable" (R24): meeting one is a fault (log entry 5). -/
def withFrame (s : State) (k : Frame → StepOutcome) : StepOutcome :=
  match Memory.wholeWindow s.win with
  | some F => k F
  | none => .fault .windowByteHasNoValue

/-- The two accepted sync values, "treated identically" (40_control.md R138; 00_scope.md R8). -/
def syncValid (v : Nat) : Bool := v == Config.syncA || v == Config.syncB

/-- FrameValidator's sync check, the decoding stages and RecordAssembler on a buffer of at least 302 bytes (40_control.md R137
to R140). -/
def validateAndDecode (F : Frame) (s : State) : State :=
  let v := F.be Config.syncPos 2
  if syncValid v then acceptRecord (BitVec.ofNat 16 v) F s else failBadSync (BitVec.ofNat 16 v) s

/-- The next event on the command port, and the state with it taken (70_reset_and_hazards.md R355, R356). -/
def takeEvent (s : State) : Option (PortEvent × State) :=
  match s.port with
  | [] => none
  | e :: rest => some (e, { s with port := rest })

/-- The platform's hardware reset: "exactly that of the `RESET` command". "A reset during a command abandons that command: the
state afterwards is the reset state, whatever the command had done" (70_reset_and_hazards.md R350; log entry 4). -/
def hardwareReset (_abandoned : Option CommandWord) (s : State) : State := resetElements s

end Sys2Proof.Machine
end

