-- ==== Sys2Proof/Machine/Control.lean ====
section
/-! DEFINITION. The buffer control commands NOP, RESET, BEGIN, PUSH and END (40_control.md R132 to R143). -/

namespace Sys2Proof.Machine

/-- `NOP`: "(no effect)", in every state (R132). -/
def execNop (s : State) : StepOutcome := .next s

/-- `RESET`, in every state; "the only command that clears `CMDERR`" (R133). -/
def execReset (s : State) : StepOutcome := .next (resetElements s)

/-- `BEGIN`, in every state (R134). -/
def execBegin (s : State) : StepOutcome := .next (openBuffer s)

/-- `PUSH b`: legal in FILL (R135). -/
def execPush (b : Byte) (s : State) : StepOutcome :=
  guarded (requireFill s) opcPush s (.next (shiftIn b s))

/-- `END`: legal in FILL; `TooShort` first, then `BadSync`, then the decode (R137, R138; 60_exceptions.md R328). -/
def execEnd (s : State) : StepOutcome :=
  guarded (requireFill s) opcEnd s
    (if s.cnt.toNat < Config.frameLen then .next (failTooShort s)
     else withFrame s (fun F => .next (validateAndDecode F s)))

end Sys2Proof.Machine
end

