-- ==== Sys2Proof/Machine/Readback.lean ====
section
/-! DEFINITION. The readback commands RDREG, RDFRM, EXTLE and RDBE (41_readback.md R160 to R166): "when legal, returns one 64-bit
response word and changes no state". -/

namespace Sys2Proof.Machine

/-- `RDREG r` (R161): the register number is checked before the state (R162). -/
def execRdreg (r : RegNumber) (s : State) : StepOutcome :=
  match registerOf r with
  | none => .next (raiseCmdError .badOperand opcRdreg s)
  | some (.status q) => .next (s.respond (q.response s))
  | some (.result q) =>
    guarded (requireRecord s) opcRdreg s (withFrame s (fun F => .next (s.respond (q.response F))))

/-- `RDFRM off`: `resp <- zext_64(F[off])` (R163). -/
def execRdfrm (off : FrameOffset) (s : State) : StepOutcome :=
  guarded (checkRdfrm off s) opcRdfrm s
    (withFrame s (fun F => .next (s.respond (zext64 (F.byte off.toNat).toNat))))

/-- `EXTLE a, w`: `resp <- zext_64(lbits(a, a + w - 1))` (R164). -/
def execExtle (start : BitVec 8) (width : BitVec 6) (s : State) : StepOutcome :=
  guarded (checkExtle start width s) opcExtle s
    (withFrame s (fun F => .next (s.respond (zext64 (F.lbits start.toNat (start.toNat + width.toNat - 1))))))

/-- `RDBE off, n`: `resp <- zext_64(BE(off, n))` (R165). -/
def execRdbe (off : FrameOffset) (n : Nat) (s : State) : StepOutcome :=
  guarded (checkRdbe off n s) opcRdbe s
    (withFrame s (fun F => .next (s.respond (zext64 (F.be off.toNat n)))))

end Sys2Proof.Machine
end

