-- ==== Sys2Proof/Machine/Dispatch.lean ====
section
/-! DEFINITION. The dispatch of a command to its meaning, one arm per row of the opcode map (30_encoding.md R108). -/

namespace Sys2Proof.Machine

def exec (i : Instr) (s : State) : Host.Outcome State Fault Refusal :=
  match i with
  | .nop => Sys2Proof.Machine.execNop s
  | .reset => Sys2Proof.Machine.execReset s
  | .beginBuffer => Sys2Proof.Machine.execBegin s
  | .push b => Sys2Proof.Machine.execPush b s
  | .endBuffer => Sys2Proof.Machine.execEnd s
  | .rdreg r => Sys2Proof.Machine.execRdreg r s
  | .rdfrm off => Sys2Proof.Machine.execRdfrm off s
  | .extle start width => Sys2Proof.Machine.execExtle start width s
  | .rdbe off n => Sys2Proof.Machine.execRdbe off n s

end Sys2Proof.Machine
end

