-- ==== Sys2Proof/Machine/Step.lean ====
section
/-! DEFINITION. One step: FDEC accepts the next event on its port and completes it (70_reset_and_hazards.md R355, R359: "a model
that executes every command in one step is exact"). -/

namespace Sys2Proof.Machine

/-- A command word is decoded and executed; a word that decodes to nothing is a command error `Illegal` (40_control.md R130;
30_encoding.md R109). -/
def runWord (w : CommandWord) (s : State) : Host.Outcome State Fault Refusal :=
  match decode w with
  | .ok i => exec i s
  | .error _ => .next (raiseCmdError .illegal (opcodeOf w) s)

/-- One step. With nothing on the port FDEC waits, and "all state survives waiting" (60_exceptions.md R339). -/
def step (s : State) : Host.Outcome State Fault Refusal :=
  match takeEvent s with
  | none => .next s
  | some (.command w, t) => runWord w t
  | some (.hardReset abandoned, t) => .next (hardwareReset abandoned t)

/-- The state in which the host presents the table row's word next (log entry 1). -/
def State.withFetchWord (s : State) (nbits w : Nat) : State :=
  { s with port := .command (tableWord nbits w) :: s.port }

end Sys2Proof.Machine
end

