-- ==== Sys2Proof/Machine/Assembler.lean ====
section
/-! DEFINITION. The assembler syntax and the pseudo-instructions of FDEC-CMD v1 (30_encoding.md R113, R114), as a function from a
line of text to command words. It is a tool of the host; no step of the machine calls it. What the spec leaves open of the text
(letter case, blanks, an empty line) is in log entry 10. -/

namespace Sys2Proof.Machine

/-- A source line after its operands are read: the nine commands (30_encoding.md R113) and the four pseudo-instructions (R114). -/
inductive AsmLine where
  | nop
  | reset
  | beginBuffer
  | push (b : Nat)
  | endBuffer
  | rdreg (r : Nat)
  | rdfrm (off : Nat)
  | extle (start width : Nat)
  | rdbe (off n : Nat)
  | pushN (b k : Nat)
  | pushS (bs : List Nat)
  | pushBE (v n : Nat)
  | frame (bs : List Nat)
  deriving DecidableEq, Repr

/-- The command of an operand that its field can hold; "the assembler refuses an operand outside the field's bit range"
(30_encoding.md R113). -/
def encodeIf (fits : Bool) (i : Instr) : Option (List CommandWord) := if fits then some [encode i] else none

/-- `PUSH b`, 0 <= b <= 255 (30_encoding.md R113). -/
def asmPush (b : Nat) : Option (List CommandWord) := encodeIf (b ≤ 255) (.push (BitVec.ofNat 8 b))

/-- `PUSHS b_0, ..., b_(k-1)`: one `PUSH` per byte, in that order (30_encoding.md R114). -/
def asmPushS : List Nat → Option (List CommandWord)
  | [] => some []
  | b :: bs =>
    match asmPush b, asmPushS bs with
    | some w, some ws => some (w ++ ws)
    | _, _ => none

/-- The n bytes of v big-endian: `(v >> 8(n-1)) and 0xFF, ..., v and 0xFF` (30_encoding.md R114). -/
def beBytesOf (v : Nat) : Nat → List Nat
  | 0 => []
  | n + 1 => ((v >>> (8 * n)) &&& 0xFF) :: beBytesOf v n

/-- The words of a line, or none where the assembler refuses it (30_encoding.md R113, R114). -/
def assembleLine : AsmLine → Option (List CommandWord)
  | .nop => some [encode .nop]
  | .reset => some [encode .reset]
  | .beginBuffer => some [encode .beginBuffer]
  | .push b => asmPush b
  | .endBuffer => some [encode .endBuffer]
  | .rdreg r => encodeIf (r ≤ 0xFFF) (.rdreg (BitVec.ofNat 12 r))
  | .rdfrm off => encodeIf (off ≤ 511) (.rdfrm (BitVec.ofNat 9 off))
  | .extle start width =>
    encodeIf (start ≤ 255 && width ≤ 63) (.extle (BitVec.ofNat 8 start) (BitVec.ofNat 6 width))
  | .rdbe off n => encodeIf (off ≤ 511 && validByteCount n) (.rdbe (BitVec.ofNat 9 off) n)
  | .pushN b k => asmPushS (List.replicate k b)
  | .pushS bs => asmPushS bs
  | .pushBE v n => asmPushS (beBytesOf v n)
  | .frame bs => (asmPushS bs).map (fun ws => encode .beginBuffer :: ws ++ [encode .endBuffer])

/-- The words of a program, one line after another (30_encoding.md R113: "one command per line"). -/
def assemble : List AsmLine → Option (List CommandWord)
  | [] => some []
  | l :: ls =>
    match assembleLine l, assemble ls with
    | some ws, some rest => some (ws ++ rest)
    | _, _ => none

/-- A decimal or hexadecimal digit. -/
def digitValue (c : Char) : Option Nat :=
  let n := c.toNat
  if 48 ≤ n ∧ n ≤ 57 then some (n - 48)
  else if 65 ≤ n ∧ n ≤ 70 then some (n - 55)
  else if 97 ≤ n ∧ n ≤ 102 then some (n - 87)
  else none

/-- The value of a run of digits in a base, from an accumulator; none on a character that is no digit of the base. -/
def digitsValue (base : Nat) : Nat → List Char → Option Nat
  | acc, [] => some acc
  | acc, c :: cs =>
    match digitValue c with
    | some d => if d < base then digitsValue base (acc * base + d) cs else none
    | none => none

/-- "Numbers are decimal or `0x` hexadecimal" (30_encoding.md R113). -/
def parseNumber : List Char → Option Nat
  | [] => none
  | '0' :: 'x' :: c :: cs => digitsValue 16 0 (c :: cs)
  | c :: cs => digitsValue 10 0 (c :: cs)

/-- The number a register name stands for (30_encoding.md R113: "a register name of 10_state.md rules R32 to R36"). -/
def registerNumberOf (name : List Char) : Option Nat :=
  match StatusReg.all.find? (fun q => q.name.toList == name) with
  | some q => some q.number
  | none => (ResultReg.all.find? (fun q => q.name.toList == name)).map ResultReg.number

/-- A register operand: a number or a register name (30_encoding.md R113). -/
def parseRegister (cs : List Char) : Option Nat :=
  match parseNumber cs with
  | some r => some r
  | none => registerNumberOf cs

/-- "`;` starts a comment" (30_encoding.md R113). -/
def dropComment (cs : List Char) : List Char := cs.takeWhile (· != ';')

/-- A blank. -/
def isBlank (c : Char) : Bool := c == ' ' || c == '\t'

/-- A text without the blanks at its two ends. -/
def trimBlanks (cs : List Char) : List Char := ((cs.dropWhile isBlank).reverse.dropWhile isBlank).reverse

/-- The parts of a text between its commas. -/
def splitCommas : List Char → List (List Char)
  | [] => [[]]
  | c :: cs =>
    if c == ',' then [] :: splitCommas cs
    else match splitCommas cs with
      | [] => [[c]]
      | p :: ps => (c :: p) :: ps

/-- The operands of a line: the parts between commas, or no operand for a blank text. -/
def operandTexts (cs : List Char) : List (List Char) :=
  if trimBlanks cs = [] then [] else (splitCommas cs).map trimBlanks

/-- The numbers of a list of operand texts. -/
def parseNumbers : List (List Char) → Option (List Nat)
  | [] => some []
  | t :: ts =>
    match parseNumber t, parseNumbers ts with
    | some n, some ns => some (n :: ns)
    | _, _ => none

/-- A mnemonic applied to operand numbers (30_encoding.md R113, R114). -/
def lineOf (mnemonic : List Char) (ns : List Nat) : Option AsmLine :=
  match mnemonic, ns with
  | ['N', 'O', 'P'], [] => some .nop
  | ['R', 'E', 'S', 'E', 'T'], [] => some .reset
  | ['B', 'E', 'G', 'I', 'N'], [] => some .beginBuffer
  | ['P', 'U', 'S', 'H'], [b] => some (.push b)
  | ['E', 'N', 'D'], [] => some .endBuffer
  | ['R', 'D', 'F', 'R', 'M'], [off] => some (.rdfrm off)
  | ['E', 'X', 'T', 'L', 'E'], [start, width] => some (.extle start width)
  | ['R', 'D', 'B', 'E'], [off, n] => some (.rdbe off n)
  | ['P', 'U', 'S', 'H', 'N'], [b, k] => some (.pushN b k)
  | ['P', 'U', 'S', 'H', 'S'], bs => some (.pushS bs)
  | ['P', 'U', 'S', 'H', 'B', 'E'], [v, n] => some (.pushBE v n)
  | ['F', 'R', 'A', 'M', 'E'], bs => some (.frame bs)
  | _, _ => none

/-- One source line: `some none` for a line with no command, none where the line is not of the syntax (30_encoding.md R113). -/
def parseLine (cs : List Char) : Option (Option AsmLine) :=
  let t := trimBlanks (dropComment cs)
  let mnemonic := t.takeWhile (fun c => !isBlank c)
  let operands := operandTexts (t.dropWhile (fun c => !isBlank c))
  if t = [] then some none
  else if mnemonic = ['R', 'D', 'R', 'E', 'G'] then
    match operands with
    | [r] => (parseRegister r).map (fun n => some (.rdreg n))
    | _ => none
  else
    match parseNumbers operands with
    | some ns => (lineOf mnemonic ns).map some
    | none => none

end Sys2Proof.Machine
end

