-- ==== Sys2Proof/Machine/Platform.lean ====
section
/-! DEFINITION. Several FDEC instances on one platform (60_exceptions.md R337): "each with its own command port", "instances never
interact". -/

namespace Sys2Proof.Machine

/-- The instances of a platform, each with all of its own state and its own port. -/
abbrev Platform := List State

/-- Instance `k` takes a step of its own; a fault or refusal is that instance's. -/
def Platform.stepInstance (p : Platform) (k : Nat) : Option (Host.Outcome Platform Fault Refusal) :=
  match p[k]? with
  | none => none
  | some s =>
    match step s with
    | .next t => some (.next (p.set k t))
    | .fault r => some (.fault r)
    | .refused r => some (.refused r)

end Sys2Proof.Machine
end

