-- ==== Sys2Proof/Safety.lean ====
section
/-! DEFINITION. The terms claims are stated in: a clean run, the legality table, the record of a buffer, and the invariant every
step keeps. -/

namespace Sys2Proof.Machine

/-- No command error since the last reset: "every claim about a command sequence takes `CMDERR = 0` at its end as a premise"
(60_exceptions.md R330; log entry 6). -/
def State.clean (s : State) : Prop := s.cmdErr = false

/-- `F[0..301]` where it is defined (10_state.md R26). -/
def State.normalisedFrame (s : State) : Option Frame := if s.frameDefined then Memory.wholeWindow s.win else none

/-- The rows of the legality table (40_control.md R131), one arm per row; `RDREG`'s rows by what its number stands for. -/
def stateLegal (i : Instr) (s : State) : Bool :=
  match i with
  | .nop => true
  | .reset => true
  | .beginBuffer => true
  | .push _ => s.state == .fill
  | .endBuffer => s.state == .fill
  | .rdreg r =>
    match registerOf r with
    | some (.result _) => s.state == .ok
    | _ => true
  | .rdfrm _ => s.state == .ok || (s.state == .err && s.errCode == .badSync)
  | .extle _ _ => s.state == .ok || (s.state == .err && s.errCode == .badSync)
  | .rdbe _ _ => s.state == .ok || (s.state == .err && s.errCode == .badSync)

/-- The accepted operand ranges (60_exceptions.md R331, row `BadOperand`). -/
def operandLegal : Instr → Bool
  | .nop => true
  | .reset => true
  | .beginBuffer => true
  | .push _ => true
  | .endBuffer => true
  | .rdreg r => (registerOf r).isSome
  | .rdfrm off => !(301 < off.toNat)
  | .extle start width =>
    !(start.toNat == 0 || width.toNat == 0 || 32 < width.toNat || 240 < start.toNat + width.toNat - 1)
  | .rdbe off n => !(302 < off.toNat + n)

/-- The cause of the command error that executing the command in the state raises, if any, by the order of the checks: the state
before the operand, for every command (40_control.md R130; 60_exceptions.md R329). `RDREG`'s register number comes first of itself,
since the state check of an unassigned number passes (41_readback.md R162). -/
def commandErrorCause (i : Instr) (s : State) : Option CmdCause :=
  if stateLegal i s = false then some .wrongState
  else if operandLegal i = false then some .badOperand
  else none

/-- The words of the nine rows, as ranges of the word's value: each mask leaves the low bits of the word free and fixes the rest
(30_encoding.md R108). -/
def legalWord (w : CommandWord) : Prop :=
  w.toNat = 0x00000000 ∨ w.toNat = 0x01000000 ∨ w.toNat = 0x02000000 ∨
  (0x03000000 ≤ w.toNat ∧ w.toNat ≤ 0x030000FF) ∨ w.toNat = 0x04000000 ∨
  (0x10000000 ≤ w.toNat ∧ w.toNat ≤ 0x10000FFF) ∨ (0x11000000 ≤ w.toNat ∧ w.toNat ≤ 0x110001FF) ∨
  (0x12000000 ≤ w.toNat ∧ w.toNat ≤ 0x12003FFF) ∨ (0x13000000 ≤ w.toNat ∧ w.toNat ≤ 0x130007FF)

/-- The opcodes of the read commands: 0x10 to 0x13 (30_encoding.md R112). -/
def readOpcode (opc : Opcode) : Prop := 0x10 ≤ opc.toNat ∧ opc.toNat ≤ 0x13

/-- The command is one of the four readback commands (41_readback.md R160). -/
def isReadback : Instr → Bool
  | .nop => false
  | .reset => false
  | .beginBuffer => false
  | .push _ => false
  | .endBuffer => false
  | .rdreg _ => true
  | .rdfrm _ => true
  | .extle _ _ => true
  | .rdbe _ _ => true

/-- The sum that defines `BE(a, n)` (20_memory.md R70). -/
def beSum (F : Frame) (a n : Nat) : Nat := ∑ j ∈ Finset.range n, (F.byte (a + j)).toNat * 2 ^ (8 * (n - 1 - j))

/-- The sum that defines `LE(a, n)` (20_memory.md R71). -/
def leSum (F : Frame) (a n : Nat) : Nat := ∑ j ∈ Finset.range n, (F.byte (a + j)).toNat * 2 ^ (8 * j)

/-- Source bit position k of the LTAS section: "bit `(k-1) mod 8` of byte `F[272 + (k-1) div 8]`" (20_memory.md R72). -/
def sourceBit (F : Frame) (k : Nat) : Bool := (F.byte (272 + (k - 1) / 8)).getLsbD ((k - 1) % 8)

/-- The unsigned integer at source positions [a-b], bit by bit, its least significant bit at the lowest position (20_memory.md
R65, R72). -/
def bitSum (F : Frame) (a b : Nat) : Nat :=
  ∑ k ∈ Finset.range (b - a + 1), if sourceBit F (a + k) then 2 ^ k else 0

/-- The unsigned registers read as `BE(a, n)`: number, first byte a, byte count n (42_fixed_header.md, 43_sips_header.md; `TP_DQUAL`
is the one byte `F[184]`, R234). -/
def bigEndianRegisters : List (RegNumber × Nat × Nat) :=
  ([ (0x010#12, 0, 4), (0x012#12, 4, 4), (0x014#12, 8, 4), (0x015#12, 12, 4), (0x023#12, 64, 4), (0x026#12, 100, 4),
    (0x030#12, 112, 4), (0x032#12, 116, 4), (0x033#12, 120, 4), (0x034#12, 124, 4), (0x035#12, 128, 4), (0x036#12, 132, 8),
    (0x037#12, 140, 8), (0x038#12, 148, 8), (0x039#12, 156, 8), (0x03A#12, 164, 8), (0x03B#12, 172, 8) ] : List (RegNumber × Nat × Nat)) ++
  ([ (0x03C#12, 180, 4), (0x03D#12, 184, 1), (0x041#12, 224, 4), (0x043#12, 228, 4), (0x045#12, 232, 4), (0x047#12, 240, 4),
    (0x04A#12, 248, 4), (0x050#12, 252, 4), (0x051#12, 256, 4), (0x052#12, 260, 4), (0x053#12, 264, 4) ] : List (RegNumber × Nat × Nat))

/-- The LTAS registers read as `lbits(a, b)`: number, first and last source bit (44_ltas_frame.md R260, R264 to R304). -/
def bitFieldRegisters : List (RegNumber × Nat × Nat) :=
  ([ (0x060#12, 1, 13), (0x061#12, 14, 17), (0x062#12, 18, 26), (0x063#12, 27, 30), (0x064#12, 31, 34), (0x065#12, 35, 51),
    (0x066#12, 52, 60), (0x067#12, 61, 87), (0x068#12, 88, 88), (0x06A#12, 89, 90), (0x06C#12, 91, 117), (0x06D#12, 118, 118),
    (0x06F#12, 119, 120), (0x072#12, 121, 147), (0x073#12, 148, 148), (0x075#12, 149, 149), (0x076#12, 150, 150) ] : List (RegNumber × Nat × Nat)) ++
  ([ (0x077#12, 151, 164), (0x078#12, 165, 165), (0x07A#12, 166, 179), (0x07B#12, 180, 180), (0x07D#12, 181, 181),
    (0x07E#12, 182, 182), (0x07F#12, 183, 184), (0x081#12, 185, 192), (0x082#12, 193, 195), (0x083#12, 196, 209),
    (0x084#12, 210, 210), (0x086#12, 211, 217), (0x087#12, 218, 224), (0x088#12, 225, 240) ] : List (RegNumber × Nat × Nat))

/-- The corrected-value registers: number, N, the source bits of the magnitude, the source bit of the sign (44_ltas_frame.md
R273, R278, R284, R289, R292, R301). -/
def correctedRegisters : List (RegNumber × Nat × Nat × Nat × Nat) :=
  [ (0x069#12, 27, 61, 87, 88), (0x06E#12, 27, 91, 117, 118), (0x074#12, 27, 121, 147, 148),
    (0x079#12, 14, 151, 164, 165), (0x07C#12, 14, 166, 179, 180), (0x085#12, 14, 196, 209, 210) ]

/-- The trimmed-length registers: number, first byte a, field width w (43_sips_header.md R213, R214, R215, R218, R236). -/
def trimmedRegisters : List (RegNumber × Nat × Nat) :=
  [ (0x020#12, 16, 16), (0x021#12, 32, 16), (0x022#12, 48, 16), (0x025#12, 68, 32), (0x040#12, 208, 16) ]

/-- The enumerated registers decoded from a big-endian word: number, the word's first byte, how many codes are named, and the
anomaly bit: a named code is its raw value, any other is the number of named codes and sets the bit (42_fixed_header.md R195;
43_sips_header.md R217, R222, R238, R240, R244). -/
def enumRegisters : List (RegNumber × Nat × Nat × Nat) :=
  [ (0x013#12, 4, 4, 1), (0x024#12, 64, 2, 2), (0x031#12, 112, 2, 3), (0x042#12, 224, 3, 4), (0x044#12, 228, 5, 5),
    (0x048#12, 240, 2, 6) ]

/-- The unassigned register numbers (10_state.md R37). -/
def unassignedNumber (r : Nat) : Prop :=
  (0x004 ≤ r ∧ r ≤ 0x00F) ∨ (0x016 ≤ r ∧ r ≤ 0x01F) ∨ (0x027 ≤ r ∧ r ≤ 0x02F) ∨ (0x03E ≤ r ∧ r ≤ 0x03F) ∨
  (0x04B ≤ r ∧ r ≤ 0x04F) ∨ (0x054 ≤ r ∧ r ≤ 0x05F) ∨ (0x089 ≤ r ∧ r ≤ 0xFFF)

/-- The spare bytes of the header (43_sips_header.md R220, R235, R251). -/
def spareByte (i : Nat) : Prop := (104 ≤ i ∧ i < 112) ∨ (185 ≤ i ∧ i < 208) ∨ (268 ≤ i ∧ i < 272)

/-- The events by which a host opens a buffer and pushes its bytes, the `BEGIN` and `PUSH`es of 70_reset_and_hazards.md R354. -/
def fillEvents (p : List Byte) : List PortEvent :=
  .command (encode .beginBuffer) :: p.map (fun b => .command (encode (.push b)))

/-- The events by which a host decodes a buffer: `BEGIN`, one `PUSH` per byte in order, `END` (70_reset_and_hazards.md R354; the
pseudo-instruction `FRAME`, 30_encoding.md R114). -/
def decodeEvents (p : List Byte) : List PortEvent := fillEvents p ++ [.command (encode .endBuffer)]

/-- What a host can read of a result register: its response where the record is readable, in OK, and nothing elsewhere
(10_state.md R31, R36). -/
def State.resultRegister (q : ResultReg) (s : State) : Option Response :=
  if s.state = .ok then s.normalisedFrame.map q.response else none

/-- Two states hold the same outcome of a decode: "the same `STATE`, `ERRCODE`, `SYNC`, `ANOM` and result registers", and the same
normalised frame (40_control.md R142, R143). -/
def State.sameRecord (s t : State) : Prop :=
  s.state = t.state ∧ s.errCode = t.errCode ∧ s.sync = t.sync ∧ s.anom = t.anom ∧
    (∀ q, s.resultRegister q = t.resultRegister q) ∧ s.normalisedFrame = t.normalisedFrame

/-- `n` steps of the machine. -/
def runSteps (n : Nat) (s : State) : Host.Outcome State Fault Refusal := Host.Core.run Sys2Proof.core n s

/-- Exactly the last `n` bytes of the window hold a value, all of them once `n` reaches 302 (10_state.md R24). -/
def windowFilled (m : Memory) (n : Nat) : Prop :=
  ∀ a, (Memory.read m a).isSome = true ↔ 302 - min n 302 ≤ a ∧ a < 302

/-- What `STATE` says of the other elements (10_state.md R22 to R29; 60_exceptions.md R321, R322, R326). -/
def elementsAgree (s : State) : Prop :=
  match s.state with
  | .idle => s.cnt = 0#32 ∧ s.errCode = .none ∧ s.sync = 0#16 ∧ s.anom = 0#9
  | .fill => s.errCode = .none ∧ s.sync = 0#16 ∧ s.anom = 0#9
  | .ok =>
    302 ≤ s.cnt.toNat ∧ s.errCode = .none ∧
      ∃ F : Frame, Memory.wholeWindow s.win = some F ∧ syncValid (F.be 300 2) = true ∧ s.sync.toNat = F.be 300 2 ∧
        s.anom = F.anomalies
  | .err =>
    s.anom = 0#9 ∧
      ((s.cnt.toNat < 302 ∧ s.errCode = .tooShort ∧ s.sync = 0#16) ∨
       (302 ≤ s.cnt.toNat ∧ s.errCode = .badSync ∧
          ∃ F : Frame, Memory.wholeWindow s.win = some F ∧ syncValid (F.be 300 2) = false ∧ s.sync.toNat = F.be 300 2))

/-- The invariant of the machine: the window's canonical form, how much of it holds a value, and the agreement of the elements. -/
def State.Inv (s : State) : Prop :=
  Memory.wf s.win ∧ windowFilled s.win s.cnt.toNat ∧ elementsAgree s

end Sys2Proof.Machine
end

