-- ==== Sys2Proof/Certificates/Slice0/Obligations.lean ====
section
/-! DEFINITION. The statements for the provers, one `def Obligations.<Name> : Prop` each, in the order of OBLIGATIONS.json. -/

open Sys2Proof Sys2Proof.Machine

/-! ## Encoding -/

/-- 30_encoding.md R100 to R108, R113: no bit of an operand is lost between the encoder and the decoder. -/
def Obligations.DecodeOfEncodeIsTheCommand : Prop :=
  ∀ i : Instr, i.wellFormed = true → decode (encode i) = .ok i

/-- 30_encoding.md R108: a command has one word. -/
def Obligations.EncodeOfDecodeIsTheWord : Prop :=
  ∀ (w : CommandWord) (i : Instr), decode w = .ok i → i.wellFormed = true ∧ encode i = w

/-- 30_encoding.md R108: "No two rows match the same word". -/
def Obligations.OpcodeRowsSelectDisjointWords : Prop :=
  ∀ (w : CommandWord) (r₁ r₂ : OpcodeRow), r₁ ∈ opcodeTable → r₂ ∈ opcodeTable →
    r₁.selects w = true → r₂.selects w = true → r₁.mnemonic = r₂.mnemonic

/-- 30_encoding.md R109: exactly the words outside the nine rows are illegal, and one is a command error with no other effect
(a word with a read command's opcode answers 0, R112). -/
def Obligations.IllegalWordsOnlyRaiseCommandErrors : Prop :=
  (∀ w : CommandWord, legalWord w ↔ ∃ i, decode w = .ok i) ∧
  ∀ (s : State) (w : CommandWord) (es : List PortEvent), s.port = .command w :: es → ¬ legalWord w →
    (readOpcode (opcodeOf w) →
      step s = .next { s with port := es, cmdErr := true, resps := s.resps ++ [0#64] }) ∧
    (¬ readOpcode (opcodeOf w) → step s = .next { s with port := es, cmdErr := true })

/-- 95_test_vectors.md L2.1: words written out from the formats decode to the commands they stand for. -/
def Obligations.SampleWordsDecodeToTheirCommands : Prop :=
  decode 0x00000000#32 = .ok .nop ∧ decode 0x01000000#32 = .ok .reset ∧ decode 0x02000000#32 = .ok .beginBuffer ∧
  decode 0x030000FF#32 = .ok (.push 0xFF#8) ∧ decode 0x04000000#32 = .ok .endBuffer ∧
  decode 0x10000088#32 = .ok (.rdreg 0x088#12) ∧ decode 0x1100012D#32 = .ok (.rdfrm 301#9) ∧
  decode 0x12000D01#32 = .ok (.extle 1#8 13#6) ∧ decode 0x13000726#32 = .ok (.rdbe 294#9 8) ∧
  decode 0x12004000#32 = .error .reservedBitSet ∧ decode 0x14000000#32 = .error .unassignedOpcode

/-- 30_encoding.md R113: the word of each line with an operand, and the refusal of an operand its field cannot hold. -/
def Obligations.AssemblerEmitsTheWordOfALine : Prop :=
  (∀ b, assembleLine (.push b) = if b ≤ 255 then some [0x03000000#32 ||| BitVec.ofNat 32 b] else none) ∧
  (∀ r, assembleLine (.rdreg r) = if r ≤ 0xFFF then some [0x10000000#32 ||| BitVec.ofNat 32 r] else none) ∧
  (∀ off, assembleLine (.rdfrm off) = if off ≤ 511 then some [0x11000000#32 ||| BitVec.ofNat 32 off] else none) ∧
  (∀ start width, assembleLine (.extle start width) =
    if start ≤ 255 ∧ width ≤ 63
    then some [0x12000000#32 ||| (BitVec.ofNat 32 width <<< 8) ||| BitVec.ofNat 32 start] else none) ∧
  (∀ off n, assembleLine (.rdbe off n) =
    if off ≤ 511 ∧ (n = 1 ∨ n = 2 ∨ n = 4 ∨ n = 8)
    then some [0x13000000#32 ||| (BitVec.ofNat 32 (Nat.log2 n) <<< 9) ||| BitVec.ofNat 32 off] else none)

/-- 30_encoding.md R114: the expansions of the four pseudo-instructions, on operands that are bytes where a byte is pushed. -/
def Obligations.PseudoInstructionsExpandAsGiven : Prop :=
  (∀ b k, b ≤ 255 → assembleLine (.pushN b k) = some (List.replicate k (0x03000000#32 ||| BitVec.ofNat 32 b))) ∧
  (∀ bs : List Nat, (∀ b ∈ bs, b ≤ 255) →
    assembleLine (.pushS bs) = some (bs.map (fun b => 0x03000000#32 ||| BitVec.ofNat 32 b)) ∧
    assembleLine (.frame bs) =
      some (0x02000000#32 :: bs.map (fun b => 0x03000000#32 ||| BitVec.ofNat 32 b) ++ [0x04000000#32])) ∧
  (∀ v n, assembleLine (.pushBE v n) =
    some ((List.range n).map (fun j => 0x03000000#32 ||| BitVec.ofNat 32 ((v >>> (8 * (n - 1 - j))) &&& 0xFF))))

/-! ## Reset and the command port -/

/-- 70_reset_and_hazards.md R351: every element after reset, and what the registers read as. -/
def Obligations.ResetStateHoldsTheResetValues : Prop :=
  State.reset.state = .idle ∧ State.reset.cnt = 0#32 ∧ (∀ a, Memory.read State.reset.win a = none) ∧
  State.reset.errCode = .none ∧ State.reset.sync = 0#16 ∧ State.reset.anom = 0#9 ∧ State.reset.cmdErr = false ∧
  (∀ n < 4, exec (.rdreg (BitVec.ofNat 12 n)) State.reset = .next { State.reset with resps := [0#64] }) ∧
  (∀ q : ResultReg, exec (.rdreg (BitVec.ofNat 12 q.number)) State.reset =
    .next { State.reset with cmdErr := true, resps := [0#64] })

/-- 40_control.md R133: `RESET` takes every element to its reset value in every state, as the hardware reset does, and leaves no
record; no other command clears `CMDERR`; a word of its opcode with an operand bit set is a command error. -/
def Obligations.ResetCommandClearsEveryElement : Prop :=
  ∀ s : State,
    (∃ t, exec .reset s = .next t ∧ t.state = .idle ∧ t.cnt = 0#32 ∧ t.errCode = .none ∧ t.sync = 0#16 ∧ t.anom = 0#9 ∧
      t.cmdErr = false ∧ (∀ a, Memory.read t.win a = none) ∧ t.statusWord = 0#64 ∧ (∀ q, t.resultRegister q = none)) ∧
    (∀ es a, step { s with port := .hardReset a :: es } = exec .reset { s with port := es }) ∧
    (∀ i t, exec i s = .next t → s.cmdErr = true → t.cmdErr = false → i = .reset) ∧
    (∀ w, decode w = .ok .reset ↔ w = 0x01000000#32) ∧
    (∀ w, opcodeOf w = 0x01#8 → w ≠ 0x01000000#32 → runWord w s = .next { s with cmdErr := true })

/-- 70_reset_and_hazards.md R350: the hardware reset, between commands or during one, has exactly the effect of `RESET` and leaves
no frame byte readable. -/
def Obligations.HardwareResetHasTheEffectOfReset : Prop :=
  ∀ (s : State) (abandoned : Option CommandWord) (es : List PortEvent), s.port = .hardReset abandoned :: es →
    ∃ t, step s = .next t ∧ exec .reset { s with port := es } = .next t ∧ t.state = .idle ∧ t.cnt = 0#32 ∧
      t.errCode = .none ∧ t.sync = 0#16 ∧ t.anom = 0#9 ∧ t.cmdErr = false ∧ (∀ a, Memory.read t.win a = none) ∧
      t.normalisedFrame = none ∧ (∀ q, t.resultRegister q = none)

/-- The model's choice (log entries 3 and 4; 10_state.md R21, R22 say the host's sequence is the host's): a reset, by command or by
hardware, leaves what the host has yet to present and what it has received. -/
def Obligations.ResetKeepsThePortAndTheResponses : Prop :=
  (∀ s : State, exec .reset s = .next { State.reset with port := s.port, resps := s.resps }) ∧
  (∀ (s : State) (abandoned : Option CommandWord) (es : List PortEvent), s.port = .hardReset abandoned :: es →
    step s = .next { State.reset with port := es, resps := s.resps })

/-- A step takes one command word off the port and is the decoded command's meaning (40_control.md R130;
70_reset_and_hazards.md R355). -/
def Obligations.StepRunsTheDecodedCommand : Prop :=
  ∀ (s : State) (w : CommandWord) (es : List PortEvent) (i : Instr), s.port = .command w :: es → decode w = .ok i →
    step s = exec i { s with port := es }

/-- 60_exceptions.md R339: FDEC is executing a command or waiting for the next one, and all state survives waiting. The empty port
as the model's picture of waiting is log entry 1's choice. -/
def Obligations.WaitingKeepsAllState : Prop :=
  ∀ (s : State) (n : Nat), s.port = [] → runSteps n s = .next s

/-! ## Buffer control -/

/-- 40_control.md R132. -/
def Obligations.NopHasNoEffect : Prop :=
  ∀ s : State, exec .nop s = .next s ∧ (∀ w, decode w = .ok .nop ↔ w = 0x00000000#32) ∧
    (∀ w, opcodeOf w = 0x00#8 → w ≠ 0x00000000#32 → runWord w s = .next { s with cmdErr := true })

/-- 40_control.md R134: `BEGIN` in every state; `CMDERR` and the port are as before. -/
def Obligations.BeginOpensAnEmptyBuffer : Prop :=
  ∀ s : State,
    (∃ t, exec .beginBuffer s = .next t ∧ t.state = .fill ∧ t.cnt = 0#32 ∧ t.errCode = .none ∧ t.sync = 0#16 ∧
      t.anom = 0#9 ∧ (∀ a, Memory.read t.win a = none) ∧ t.cmdErr = s.cmdErr ∧ t.port = s.port ∧ t.resps = s.resps ∧
      (∀ q, t.resultRegister q = none)) ∧
    (∀ w, decode w = .ok .beginBuffer ↔ w = 0x02000000#32) ∧
    (∀ w, opcodeOf w = 0x02#8 → w ≠ 0x02000000#32 → runWord w s = .next { s with cmdErr := true })

/-- 40_control.md R135: in FILL the window shifts by one and takes the byte, `CNT` counts up to its maximum, and nothing else
changes; outside FILL `PUSH` is a command error. -/
def Obligations.PushShiftsTheByteIn : Prop :=
  ∀ (s : State) (b : Byte),
    (s.state = .fill →
      ∃ t, exec (.push b) s = .next t ∧ t = { s with win := t.win, cnt := t.cnt } ∧
        (∀ a < 301, Memory.read t.win a = Memory.read s.win (a + 1)) ∧ Memory.read t.win 301 = some b ∧
        (Memory.wf s.win → Memory.wf t.win) ∧
        (s.cnt = 0xFFFFFFFF#32 → t.cnt = 0xFFFFFFFF#32) ∧ (s.cnt ≠ 0xFFFFFFFF#32 → t.cnt.toNat = s.cnt.toNat + 1)) ∧
    (s.state ≠ .fill → exec (.push b) s = .next { s with cmdErr := true }) ∧
    (∀ w c, decode w = .ok (.push c) ↔ w = 0x030000#24 ++ c) ∧
    (∀ w, opcodeOf w = 0x03#8 → w.extractLsb' 8 16 ≠ 0#16 → runWord w s = .next { s with cmdErr := true })

/-- 40_control.md R137, R138: the length, then the sync, then the record; outside FILL `END` is a command error. The window of a
buffer of 302 bytes or more holds a value in every byte (R136; `EveryStepKeepsTheInvariant`). -/
def Obligations.EndReportsExactlyOneOutcome : Prop :=
  ∀ s : State,
    (s.state = .fill → s.cnt.toNat < 302 →
      exec .endBuffer s = .next { s with state := .err, errCode := .tooShort, sync := 0#16, anom := 0#9 }) ∧
    (∀ F : Frame, s.state = .fill → 302 ≤ s.cnt.toNat → Memory.wholeWindow s.win = some F →
      ∀ v : Nat, v = 256 * (F.byte 300).toNat + (F.byte 301).toNat →
        (v ≠ 0x5858 → v ≠ 0x58A0 →
          exec .endBuffer s = .next { s with state := .err, errCode := .badSync, sync := BitVec.ofNat 16 v, anom := 0#9 }) ∧
        (v = 0x5858 ∨ v = 0x58A0 →
          exec .endBuffer s =
            .next { s with state := .ok, errCode := .none, sync := BitVec.ofNat 16 v, anom := F.anomalies })) ∧
    (s.state ≠ .fill → exec .endBuffer s = .next { s with cmdErr := true }) ∧
    (∀ w, decode w = .ok .endBuffer ↔ w = 0x04000000#32) ∧
    (∀ w, opcodeOf w = 0x04#8 → w ≠ 0x04000000#32 → runWord w s = .next { s with cmdErr := true })

/-- 60_exceptions.md R324: after a fatal error no result register is readable and no anomaly is reported. -/
def Obligations.FatalErrorsLeaveNoRecord : Prop :=
  ∀ s t : State, s.state = .fill → exec .endBuffer s = .next t → t.state = .err →
    t.anom = 0#9 ∧
    ∀ (r : RegNumber) (q : ResultReg), registerOf r = some (.result q) →
      exec (.rdreg r) t = .next { t with cmdErr := true, resps := t.resps ++ [0#64] }

/-- 40_control.md R136 and 10_state.md R24: after `BEGIN` and any number of `PUSH`es the window holds exactly the trailing bytes, in
order, and a byte no push has reached holds no value; no run from there, whatever the host goes on to present, ever meets such a
byte (a meeting is the machine's one fault). -/
def Obligations.WindowHoldsTheTrailingBytes : Prop :=
  ∀ (s : State) (p : List Byte) (es : List PortEvent), s.port = fillEvents p ++ es →
    ∃ t, runSteps (p.length + 1) s = .next t ∧ t.state = .fill ∧ t.port = es ∧ t.cmdErr = s.cmdErr ∧ t.resps = s.resps ∧
      (∀ i < 302, Memory.read t.win i = if 302 ≤ p.length + i then p[p.length + i - 302]? else none) ∧
      ∀ k, ∃ u, runSteps k t = .next u

/-- 10_state.md R25: `CNT` is the number of pushes since `BEGIN`, saturating. -/
def Obligations.CountIsTheNumberOfPushesSaturated : Prop :=
  ∀ (s : State) (p : List Byte) (es : List PortEvent), s.port = fillEvents p ++ es →
    ∃ t, runSteps (p.length + 1) s = .next t ∧ t.cnt.toNat = min p.length 0xFFFFFFFF

/-- 40_control.md R142, prefix invariance: only the last 302 bytes of a buffer affect the outcome, from any two states. -/
def Obligations.PrefixNeverChangesTheRecord : Prop :=
  ∀ (s s' : State) (X G : List Byte) (es es' : List PortEvent), G.length = 302 →
    s.port = decodeEvents (X ++ G) ++ es → s'.port = decodeEvents G ++ es' →
    ∃ t t', runSteps ((X ++ G).length + 2) s = .next t ∧ runSteps (G.length + 2) s' = .next t' ∧ t.sameRecord t'

/-- 40_control.md R143, idempotence: the same bytes give the same outcome and count whatever came before; `CMDERR` keeps its
earlier value. -/
def Obligations.SameBytesGiveTheSameRecord : Prop :=
  ∀ (s s' : State) (p : List Byte) (es es' : List PortEvent),
    s.port = decodeEvents p ++ es → s'.port = decodeEvents p ++ es' →
    ∃ t t', runSteps (p.length + 2) s = .next t ∧ runSteps (p.length + 2) s' = .next t' ∧ t.sameRecord t' ∧
      t.cnt = t'.cnt ∧ t.cmdErr = s.cmdErr ∧ t'.cmdErr = s'.cmdErr

/-! ## Readback -/

/-- 10_state.md R32 to R35: the four status registers, in every state. -/
def Obligations.StatusRegistersReadInEveryState : Prop :=
  ∀ s : State,
    (∃ v : Response, exec (.rdreg 0x000#12) s = .next { s with resps := s.resps ++ [v] } ∧
      v.toNat = s.state.code.toNat + 4 * s.errCode.code.toNat + (if s.cmdErr then 16 else 0) +
        (if s.anom = 0#9 then 0 else 32)) ∧
    exec (.rdreg 0x001#12) s = .next { s with resps := s.resps ++ [BitVec.ofNat 64 s.cnt.toNat] } ∧
    exec (.rdreg 0x002#12) s = .next { s with resps := s.resps ++ [BitVec.ofNat 64 s.sync.toNat] } ∧
    exec (.rdreg 0x003#12) s = .next { s with resps := s.resps ++ [BitVec.ofNat 64 s.anom.toNat] }

/-- 10_state.md R37: the unassigned numbers, a command error in every state. -/
def Obligations.UnassignedNumbersAreCommandErrors : Prop :=
  ∀ r : RegNumber,
    (unassignedNumber r.toNat ↔ registerOf r = none) ∧
    (unassignedNumber r.toNat →
      ∀ s : State, exec (.rdreg r) s = .next { s with cmdErr := true, resps := s.resps ++ [0#64] })

/-- 41_readback.md R161, R162: `RDREG`'s three checks in their order, and its response. -/
def Obligations.RegisterReadChecksNumberThenState : Prop :=
  ∀ (s : State) (r : RegNumber),
    (registerOf r = none → exec (.rdreg r) s = .next { s with cmdErr := true, resps := s.resps ++ [0#64] }) ∧
    (∀ q, registerOf r = some (.status q) → q.number = r.toNat ∧
      exec (.rdreg r) s = .next { s with resps := s.resps ++ [q.response s] }) ∧
    (∀ q, registerOf r = some (.result q) → q.number = r.toNat ∧
      (s.state ≠ .ok → exec (.rdreg r) s = .next { s with cmdErr := true, resps := s.resps ++ [0#64] }) ∧
      (∀ F : Frame, s.state = .ok → Memory.wholeWindow s.win = some F →
        exec (.rdreg r) s = .next { s with resps := s.resps ++ [q.response F] })) ∧
    (∀ w, decode w = .ok (.rdreg r) ↔ w = 0x10000#20 ++ r) ∧
    (∀ w, opcodeOf w = 0x10#8 → w.extractLsb' 12 12 ≠ 0#12 →
      runWord w s = .next { s with cmdErr := true, resps := s.resps ++ [0#64] })

/-- 41_readback.md R163: `RDFRM`, each byte of the frame; state before operand. -/
def Obligations.FrameByteReadback : Prop :=
  ∀ (s : State) (off : FrameOffset),
    (∀ F : Frame, s.state = .ok ∨ (s.state = .err ∧ s.errCode = .badSync) → Memory.wholeWindow s.win = some F →
      off.toNat ≤ 301 → ∃ b : Byte, Memory.read s.win off.toNat = some b ∧
        exec (.rdfrm off) s = .next { s with resps := s.resps ++ [BitVec.ofNat 64 b.toNat] }) ∧
    (¬ (s.state = .ok ∨ (s.state = .err ∧ s.errCode = .badSync)) ∨ 301 < off.toNat →
      exec (.rdfrm off) s = .next { s with cmdErr := true, resps := s.resps ++ [0#64] }) ∧
    (∀ w, decode w = .ok (.rdfrm off) ↔ w = 0x088000#23 ++ off) ∧
    (∀ w, opcodeOf w = 0x11#8 → w.extractLsb' 9 15 ≠ 0#15 →
      runWord w s = .next { s with cmdErr := true, resps := s.resps ++ [0#64] })

/-- 41_readback.md R164: `EXTLE`, the field bit by bit; every operand corner. -/
def Obligations.BitFieldReadback : Prop :=
  ∀ (s : State) (a : BitVec 8) (w : BitVec 6),
    (∀ F : Frame, s.state = .ok ∨ (s.state = .err ∧ s.errCode = .badSync) → Memory.wholeWindow s.win = some F →
      1 ≤ a.toNat → 1 ≤ w.toNat → w.toNat ≤ 32 → a.toNat + w.toNat - 1 ≤ 240 →
      exec (.extle a w) s =
        .next { s with resps := s.resps ++ [BitVec.ofNat 64 (bitSum F a.toNat (a.toNat + w.toNat - 1))] }) ∧
    (¬ (s.state = .ok ∨ (s.state = .err ∧ s.errCode = .badSync)) ∨
        a.toNat < 1 ∨ w.toNat < 1 ∨ 32 < w.toNat ∨ 240 < a.toNat + w.toNat - 1 →
      exec (.extle a w) s = .next { s with cmdErr := true, resps := s.resps ++ [0#64] }) ∧
    (∀ x, decode x = .ok (.extle a w) ↔ x = (0x04800#18 ++ w) ++ a) ∧
    (∀ x, opcodeOf x = 0x12#8 → x.extractLsb' 14 10 ≠ 0#10 →
      runWord x s = .next { s with cmdErr := true, resps := s.resps ++ [0#64] })

/-- 41_readback.md R165: `RDBE`, n bytes most significant first, never sign-extended; every offset. -/
def Obligations.BigEndianReadback : Prop :=
  ∀ (s : State) (off : FrameOffset) (nsel : BitVec 2),
    (∀ F : Frame, s.state = .ok ∨ (s.state = .err ∧ s.errCode = .badSync) → Memory.wholeWindow s.win = some F →
      off.toNat + 2 ^ nsel.toNat ≤ 302 →
      exec (.rdbe off (2 ^ nsel.toNat)) s =
        .next { s with resps := s.resps ++ [BitVec.ofNat 64 (beSum F off.toNat (2 ^ nsel.toNat))] }) ∧
    (¬ (s.state = .ok ∨ (s.state = .err ∧ s.errCode = .badSync)) ∨ 302 < off.toNat + 2 ^ nsel.toNat →
      exec (.rdbe off (2 ^ nsel.toNat)) s = .next { s with cmdErr := true, resps := s.resps ++ [0#64] }) ∧
    (∀ w, decode w = .ok (.rdbe off (2 ^ nsel.toNat)) ↔ w = (0x026000#21 ++ nsel) ++ off) ∧
    (∀ w, opcodeOf w = 0x13#8 → w.extractLsb' 11 13 ≠ 0#13 →
      runWord w s = .next { s with cmdErr := true, resps := s.resps ++ [0#64] })

/-- 41_readback.md R160: a readback command that completes appends one response, and changes nothing else if it is legal, `CMDERR`
too if it is a command error, when the response is 0. -/
def Obligations.ReadbackChangesNoState : Prop :=
  ∀ (i : Instr) (s t : State), isReadback i = true → exec i s = .next t →
    (commandErrorCause i s = none → ∃ v : Response, t = { s with resps := s.resps ++ [v] }) ∧
    (commandErrorCause i s ≠ none → t = { s with cmdErr := true, resps := s.resps ++ [0#64] })

/-- 41_readback.md R166: `RDBE` and `EXTLE` at a register's bytes or bits read what `RDREG` reads. -/
def Obligations.ReadbackCommandsAgree : Prop :=
  ∀ s : State, s.state = .ok → (Memory.wholeWindow s.win).isSome = true →
    (∀ e ∈ bigEndianRegisters, exec (.rdbe (BitVec.ofNat 9 e.2.1) e.2.2) s = exec (.rdreg e.1) s) ∧
    (∀ e ∈ bitFieldRegisters,
      exec (.extle (BitVec.ofNat 8 e.2.1) (BitVec.ofNat 6 (e.2.2 - e.2.1 + 1))) s = exec (.rdreg e.1) s)

/-! ## The decoded record -/

/-- 20_memory.md R70, R71, R72: the three reads of the frame as the sums and bits that define them. -/
def Obligations.FrameReadsAreTheirDefiningSums : Prop :=
  ∀ F : Frame,
    (∀ a n, 1 ≤ n → a + n ≤ 302 → F.be a n = beSum F a n) ∧
    (∀ a n, 1 ≤ n → a + n ≤ 302 → F.le a n = leSum F a n) ∧
    F.ltasInteger = leSum F 272 30 ∧
    (∀ k, 1 ≤ k → k ≤ 240 → F.ltasInteger.testBit (k - 1) = sourceBit F k) ∧
    (∀ a b, 1 ≤ a → a ≤ b → b ≤ 240 → F.lbits a b = bitSum F a b)

/-- 20_memory.md R73: every window of whole bytes that covers a field gives the same value. -/
def Obligations.EveryCoveringWindowExtractsTheField : Prop :=
  ∀ (F : Frame) (a b m : Nat), 1 ≤ a → a ≤ b → b ≤ 240 → b ≤ 8 * ((a - 1) / 8 + m) → (a - 1) / 8 + m ≤ 30 →
    (F.le (272 + (a - 1) / 8) m >>> (a - 1 - 8 * ((a - 1) / 8))) &&& (2 ^ (b - a + 1) - 1) = F.lbits a b

/-- 20_memory.md R64: every big-endian header register, by its bytes: the first byte is most significant, and the response is
zero-extended. -/
def Obligations.HeaderRegistersReadBigEndian : Prop :=
  ∀ (s : State) (F : Frame), s.state = .ok → Memory.wholeWindow s.win = some F →
    (∀ e ∈ bigEndianRegisters,
      exec (.rdreg e.1) s = .next { s with resps := s.resps ++ [BitVec.ofNat 64 (beSum F e.2.1 e.2.2)] }) ∧
    (∀ e ∈ [((0x046#12 : RegNumber), 236), ((0x049#12 : RegNumber), 244)],
      exec (.rdreg e.1) s = .next { s with resps := s.resps ++
        [BitVec.ofInt 64 (if beSum F e.2 4 < 2 ^ 31 then (beSum F e.2 4 : Int) else (beSum F e.2 4 : Int) - 2 ^ 32)] })

/-- 44_ltas_frame.md R261: every unsigned LTAS register holds the bits of its field. -/
def Obligations.LtasRegistersReadTheirBits : Prop :=
  ∀ (s : State) (F : Frame), s.state = .ok → Memory.wholeWindow s.win = some F →
    ∀ e ∈ bitFieldRegisters,
      exec (.rdreg e.1) s = .next { s with resps := s.resps ++ [BitVec.ofNat 64 (bitSum F e.2.1 e.2.2)] }

/-- 44_ltas_frame.md R263: the corrected value is `m - s·2^N`, the (N+1)-bit two's-complement value, in its range, and gives the
magnitude back. -/
def Obligations.CorrectionIsTwosComplement : Prop :=
  ∀ N m s : Nat, m < 2 ^ N → s = 0 ∨ s = 1 →
    corr N m s = (m : Int) - s * 2 ^ N ∧ corr N m s = sext (N + 1) (s * 2 ^ N + m) ∧
    -(2 ^ N : Int) ≤ corr N m s ∧ corr N m s ≤ 2 ^ N - 1 ∧ (corr N m s < 0 ↔ s = 1) ∧ corr N m s % 2 ^ N = m

/-- 44_ltas_frame.md R273, R278, R284, R289, R292, R301: the six corrected-value registers, sign-extended. -/
def Obligations.CorrectedRegistersReadSigned : Prop :=
  ∀ (s : State) (F : Frame), s.state = .ok → Memory.wholeWindow s.win = some F →
    ∀ e ∈ correctedRegisters,
      exec (.rdreg e.1) s = .next { s with resps := s.resps ++
        [BitVec.ofInt 64 ((bitSum F e.2.2.1 e.2.2.2.1 : Int) - bitSum F e.2.2.2.2 e.2.2.2.2 * 2 ^ e.2.1)] }

/-- 44_ltas_frame.md R275, R280, R281, R296: the registers looked up from a two-bit code, and the anomaly of
the velocity scale. -/
def Obligations.CodeTablesReadTheirEntries : Prop :=
  ∀ (s : State) (F : Frame), s.state = .ok → Memory.wholeWindow s.win = some F →
    exec (.rdreg 0x06B#12) s = .next { s with resps := s.resps ++
      [BitVec.ofNat 64 (([1, 10, 10000, 100000000000] : List Nat).getD (bitSum F 89 90) 0)] } ∧
    exec (.rdreg 0x070#12) s = .next { s with resps := s.resps ++
      [BitVec.ofNat 64 (([0, 1, 2, 2] : List Nat).getD (bitSum F 119 120) 0)] } ∧
    exec (.rdreg 0x071#12) s = .next { s with resps := s.resps ++
      [BitVec.ofNat 64 (([1, 10, 0, 0] : List Nat).getD (bitSum F 119 120) 0)] } ∧
    exec (.rdreg 0x080#12) s = .next { s with resps := s.resps ++
      [BitVec.ofNat 64 (([10, 24, 50, 100] : List Nat).getD (bitSum F 183 184) 0)] } ∧
    (F.anomalies.getLsbD 7 = true ↔ 2 ≤ bitSum F 119 120)

/-- 42_fixed_header.md R192, R195; 43_sips_header.md R217, R222, R238, R240, R244: the enumerated registers and the
anomaly each raises. -/
def Obligations.EnumRegistersReadTheirCodes : Prop :=
  ∀ (s : State) (F : Frame), s.state = .ok → Memory.wholeWindow s.win = some F →
    exec (.rdreg 0x011#12) s = .next { s with resps := s.resps ++
      [BitVec.ofNat 64 (if beSum F 0 4 = 0xFFFFFFFF then 0 else if beSum F 0 4 = 0 then 1 else 2)] } ∧
    (F.anomalies.getLsbD 0 = true ↔ beSum F 0 4 ≠ 0xFFFFFFFF ∧ beSum F 0 4 ≠ 0) ∧
    ∀ e ∈ enumRegisters,
      exec (.rdreg e.1) s = .next { s with resps := s.resps ++ [BitVec.ofNat 64 (min (beSum F e.2.1 4) e.2.2.1)] } ∧
      (F.anomalies.getLsbD e.2.2.2 = true ↔ e.2.2.1 ≤ beSum F e.2.1 4)

/-- 60_exceptions.md R325: each bit of the anomaly set is set exactly when its condition holds, and then its field reads as its
`Unknown` or `invalid` code. -/
def Obligations.AnomalyBitsAreTheirConditions : Prop :=
  ∀ F : Frame,
    (F.anomalies.getLsbD 0 = true ↔ F.be 0 4 ≠ 0xFFFFFFFF ∧ F.be 0 4 ≠ 0) ∧
    (F.anomalies.getLsbD 1 = true ↔ F.be 4 4 > 3) ∧ (F.anomalies.getLsbD 2 = true ↔ F.be 64 4 > 1) ∧
    (F.anomalies.getLsbD 3 = true ↔ F.be 112 4 > 1) ∧ (F.anomalies.getLsbD 4 = true ↔ F.be 224 4 > 2) ∧
    (F.anomalies.getLsbD 5 = true ↔ F.be 228 4 > 4) ∧ (F.anomalies.getLsbD 6 = true ↔ F.be 240 4 > 1) ∧
    (F.anomalies.getLsbD 7 = true ↔ F.lbits 119 120 = 2 ∨ F.lbits 119 120 = 3) ∧
    (F.anomalies.getLsbD 8 = true ↔ F.lbits 193 195 = 7) ∧
    (F.anomalies.getLsbD 0 = true → ResultReg.value F .fhBorder = .unsigned 2) ∧
    (F.anomalies.getLsbD 1 = true → ResultReg.value F .fhExtType = .unsigned 4) ∧
    (F.anomalies.getLsbD 2 = true → ResultReg.value F .eaAddrType = .unsigned 2) ∧
    (F.anomalies.getLsbD 3 = true → ResultReg.value F .tpRangeAv = .unsigned 2) ∧
    (F.anomalies.getLsbD 4 = true → ResultReg.value F .eiCat = .unsigned 3) ∧
    (F.anomalies.getLsbD 5 = true → ResultReg.value F .eiType = .unsigned 5) ∧
    (F.anomalies.getLsbD 6 = true → ResultReg.value F .eiCert = .unsigned 2) ∧
    (F.anomalies.getLsbD 7 = true → ResultReg.value F .ltVscale = .unsigned 2) ∧
    (F.anomalies.getLsbD 8 = true → ResultReg.value F .ltMode = .unsigned 7)

/-- 43_sips_header.md R212 to R215, R218, R236: a trimmed length is the position of the last byte that is not 0x00, and 0 where
every byte is. -/
def Obligations.TrimmedLengthsStripTrailingZeros : Prop :=
  ∀ (s : State) (F : Frame), s.state = .ok → Memory.wholeWindow s.win = some F →
    ∀ e ∈ trimmedRegisters, ∃ n ≤ e.2.2,
      exec (.rdreg e.1) s = .next { s with resps := s.resps ++ [BitVec.ofNat 64 n] } ∧
      (n = 0 ∨ F.byte (e.2.1 + n - 1) ≠ 0#8) ∧ (∀ j, n ≤ j → j < e.2.2 → F.byte (e.2.1 + j) = 0#8)

/-- 42_fixed_header.md R193: frames that differ in the byte ordering flag alone decode alike but for the flag's own registers. -/
def Obligations.ByteOrderFlagSwitchesNoOtherRead : Prop :=
  ∀ (F G : Frame), (∀ i, 4 ≤ i → F.byte i = G.byte i) →
    ∀ q : ResultReg, q ≠ .fhBorderRaw → q ≠ .fhBorder → ResultReg.value F q = ResultReg.value G q

/-- 43_sips_header.md R220, R235, R251: frames that differ in header spares alone have the same registers and anomalies. -/
def Obligations.SpareBytesAffectNoResult : Prop :=
  ∀ (F G : Frame), (∀ i, ¬ spareByte i → F.byte i = G.byte i) →
    F.anomalies = G.anomalies ∧ ∀ q : ResultReg, ResultReg.value F q = ResultReg.value G q

/-- 44_ltas_frame.md R302: two buffers that differ in the checksum bits alone, [211-217], get the same outcome of `END`, and every
register but `LT_CHECKSUM`, the field as read, reads the same. -/
def Obligations.ChecksumIsNeverVerified : Prop :=
  ∀ (s s' t t' : State) (F F' : Frame), s.state = .fill → s'.state = .fill → s'.cnt = s.cnt → 302 ≤ s.cnt.toNat →
    Memory.wholeWindow s.win = some F → Memory.wholeWindow s'.win = some F' →
    (∀ i, i ≠ 298 → i ≠ 299 → F.byte i = F'.byte i) →
    (∀ k, 209 ≤ k → k ≤ 224 → (k < 211 ∨ 217 < k) → sourceBit F k = sourceBit F' k) →
    exec .endBuffer s = .next t → exec .endBuffer s' = .next t' →
    t.state = t'.state ∧ t.errCode = t'.errCode ∧ t.sync = t'.sync ∧ t.anom = t'.anom ∧
    (∀ q : ResultReg, q ≠ .ltChecksum → ResultReg.value F q = ResultReg.value F' q) ∧
    (t.state = .ok → exec (.rdreg 0x086#12) t = .next { t with resps := t.resps ++ [BitVec.ofNat 64 (bitSum F 211 217)] })

/-- 10_state.md R36, R38: every register's value is of its signedness and fits its width. -/
def Obligations.RegisterValuesFitTheirWidth : Prop :=
  ∀ (F : Frame) (q : ResultReg),
    (∀ v, ResultReg.value F q = .unsigned v → q.isSigned = false ∧ v < 2 ^ q.width) ∧
    (∀ v, ResultReg.value F q = .signed v →
      q.isSigned = true ∧ -(2 ^ (q.width - 1) : Int) ≤ v ∧ v < 2 ^ (q.width - 1))

/-- 44_ltas_frame.md R304: `LT_SYNCBITS` reads the sync bytes little-endian; in a consistent OK state it is 0x5858 or 0xA058. -/
def Obligations.SyncBitsReadLittleEndian : Prop :=
  (∀ F : Frame, F.lbits 225 240 = (F.byte 300).toNat + 256 * (F.byte 301).toNat ∧
    F.le 300 2 = (F.byte 300).toNat + 256 * (F.byte 301).toNat) ∧
  ∀ s : State, s.Inv → s.state = .ok → ∃ b₀ b₁ : Byte, Memory.read s.win 300 = some b₀ ∧ Memory.read s.win 301 = some b₁ ∧
    exec (.rdreg 0x088#12) s = .next { s with resps := s.resps ++ [BitVec.ofNat 64 (b₀.toNat + 256 * b₁.toNat)] } ∧
    (b₀.toNat * 256 + b₁.toNat = 0x5858 ∧ b₀.toNat + 256 * b₁.toNat = 0x5858 ∨
     b₀.toNat * 256 + b₁.toNat = 0x58A0 ∧ b₀.toNat + 256 * b₁.toNat = 0xA058)

/-- 44_ltas_frame.md R297: the flag register is frame byte 295, each flag is its bit, and `EXTLE k, 1` reads it alone. -/
def Obligations.FlagRegisterIsFrameByte295 : Prop :=
  ∀ F : Frame, ResultReg.value F .ltFlags = .unsigned (F.byte 295).toNat ∧ bitSum F 185 192 = (F.byte 295).toNat ∧
    (∀ s : State, s.state = .ok → Memory.wholeWindow s.win = some F → ∀ k < 8,
      exec (.extle (BitVec.ofNat 8 (185 + k)) 1#6) s =
        .next { s with resps := s.resps ++ [if (F.byte 295).getLsbD k then 1#64 else 0#64] }) ∧
    F.ltFlag .refractionCorrection = (F.byte 295).getLsbD 0 ∧ F.ltFlag .droop = (F.byte 295).getLsbD 1 ∧
    F.ltFlag .paramp = (F.byte 295).getLsbD 2 ∧ F.ltFlag .radiation = (F.byte 295).getLsbD 3 ∧
    F.ltFlag .localOscillators = (F.byte 295).getLsbD 4 ∧ F.ltFlag .beaconSkin = (F.byte 295).getLsbD 5 ∧
    F.ltFlag .trackBit = (F.byte 295).getLsbD 6 ∧ F.ltFlag .qualityBit = (F.byte 295).getLsbD 7

/-- 00_scope.md R8; 20_memory.md R62, R63; 44_ltas_frame.md R260: the sections tile the frame at their bases and lengths, the
layout rows tile it within their sections, and the 31 fields tile the LTAS bits. -/
def Obligations.LayoutTilesFrameAndSection : Prop :=
  (∀ a < 302, (FrameSection.all.filter (fun x => x.holds a)).length = 1) ∧
  FrameSection.all.map (fun x => (x.base, x.len)) = [(0, 16), (16, 256), (272, 30)] ∧
  (∀ r ∈ frameLayout, r.part.base ≤ r.lo ∧ r.lo < r.hi ∧ r.hi ≤ r.part.base + r.part.len) ∧
  (∀ a < 302, (layoutRowsAt a).length = 1) ∧ LtasField.all.length = 31 ∧
  (∀ k < 240, (LtasField.all.filter (fun f => f.sourceBits.1 ≤ k + 1 && k + 1 ≤ f.sourceBits.2)).length = 1)

/-! ## Errors and whole-machine rules -/

/-- 40_control.md R130, R131; 60_exceptions.md R329, R330, R331: a command whose check fails, and a word that is no command, set
`CMDERR`, answer 0 if the opcode is a read's, and change nothing else; one with no failing check is never a command error. -/
def Obligations.CommandErrorHasOneEffect : Prop :=
  ∀ s : State,
    (∀ i : Instr,
      (commandErrorCause i s ≠ none →
        exec i s = .next { s with cmdErr := true, resps := if isReadback i then s.resps ++ [0#64] else s.resps }) ∧
      (∀ t, commandErrorCause i s = none → exec i s = .next t → t.cmdErr = true → s.cmdErr = true)) ∧
    (∀ w : CommandWord, ¬ legalWord w →
      (readOpcode (opcodeOf w) → runWord w s = .next { s with cmdErr := true, resps := s.resps ++ [0#64] }) ∧
      (¬ readOpcode (opcodeOf w) → runWord w s = .next { s with cmdErr := true }))

/-- 10_state.md R30: every command error sets `CMDERR`; once set, it stays until a hardware reset or a `RESET` command, and those
two clear it. -/
def Obligations.CommandErrorFlagIsSticky : Prop :=
  ∀ s t : State, step s = .next t →
    (s.cmdErr = true → t.cmdErr = false →
      ∃ es, s.port = .command 0x01000000#32 :: es ∨ ∃ a, s.port = .hardReset a :: es) ∧
    (∀ es a, s.port = .command 0x01000000#32 :: es ∨ s.port = .hardReset a :: es → t.cmdErr = false) ∧
    (∀ w es, s.port = .command w :: es →
      (¬ legalWord w ∨ ∃ i, decode w = .ok i ∧ commandErrorCause i { s with port := es } ≠ none) → t.cmdErr = true)

/-- 30_encoding.md R112: a word with opcode 0x10 to 0x13 returns exactly one response, legal or not, and any other word none. -/
def Obligations.OneResponsePerReadWord : Prop :=
  ∀ (s t : State) (w : CommandWord) (es : List PortEvent), s.port = .command w :: es → step s = .next t →
    (readOpcode (opcodeOf w) → ∃ v : Response, t.resps = s.resps ++ [v] ∧
      (¬ legalWord w ∨ (∃ i, decode w = .ok i ∧ commandErrorCause i { s with port := es } ≠ none) → v = 0#64)) ∧
    (¬ readOpcode (opcodeOf w) → t.resps = s.resps)

/-- 10_state.md R23: the four states' codes, and what enters each. -/
def Obligations.BufferStatesAreEnteredAsGiven : Prop :=
  (BufState.idle.code.toNat = 0 ∧ BufState.fill.code.toNat = 1 ∧ BufState.ok.code.toNat = 2 ∧ BufState.err.code.toNat = 3) ∧
  ∀ s t : State, step s = .next t → t.state ≠ s.state →
    (t.state = .idle ∧ ∃ es, s.port = .command 0x01000000#32 :: es ∨ ∃ a, s.port = .hardReset a :: es) ∨
    (t.state = .fill ∧ ∃ es, s.port = .command 0x02000000#32 :: es) ∨
    ((t.state = .ok ∨ t.state = .err) ∧ s.state = .fill ∧ ∃ es, s.port = .command 0x04000000#32 :: es)

/-- 20_memory.md R60, R75: no command but `PUSH` writes a byte of the window; `BEGIN`, `RESET` and the hardware reset empty it. -/
def Obligations.OnlyPushWritesTheWindow : Prop :=
  ∀ s t : State, step s = .next t →
    t.win = s.win ∨ (∀ a, Memory.read t.win a = none) ∨
    (s.state = .fill ∧ ∃ (b : Byte) (es : List PortEvent), s.port = .command (0x030000#24 ++ b) :: es ∧
      ∀ a < 302, Memory.read t.win a = if a = 301 then some b else Memory.read s.win (a + 1))

/-! ## Invariants -/

/-- The invariant holds right after reset. -/
def Obligations.ResetStateMeetsTheInvariant : Prop := State.reset.Inv

/-- 10_state.md R22 to R30: every step keeps the window's canonical form, the window filled exactly as `CNT` says, and the
agreement of the elements with `STATE`, from any state that has them. -/
def Obligations.EveryStepKeepsTheInvariant : Prop :=
  ∀ s t : State, s.Inv → step s = .next t → t.Inv

/-- 10_state.md R24: "A `WIN` byte that holds no value is never observable": under the invariant no step faults or refuses. -/
def Obligations.NoStepStopsUnderTheInvariant : Prop :=
  ∀ s : State, s.Inv → ∃ t, step s = .next t

/-- The model's choice (log entry 5; 10_state.md R24 says only that such a byte is never observable): in a state that no run from
reset reaches, a command that would read a frame some byte of which holds no value stops with the named fault. -/
def Obligations.MissingFrameBytesStopTheRead : Prop :=
  ∀ s : State, Memory.wholeWindow s.win = none →
    (s.state = .fill → 302 ≤ s.cnt.toNat → exec .endBuffer s = .fault .windowByteHasNoValue) ∧
    (s.state = .ok → ∀ (r : RegNumber) (q : ResultReg), registerOf r = some (.result q) →
      exec (.rdreg r) s = .fault .windowByteHasNoValue) ∧
    (s.state = .ok ∨ (s.state = .err ∧ s.errCode = .badSync) →
      (∀ off : FrameOffset, off.toNat ≤ 301 → exec (.rdfrm off) s = .fault .windowByteHasNoValue) ∧
      (∀ (a : BitVec 8) (w : BitVec 6), 1 ≤ a.toNat → 1 ≤ w.toNat → w.toNat ≤ 32 → a.toNat + w.toNat - 1 ≤ 240 →
        exec (.extle a w) s = .fault .windowByteHasNoValue) ∧
      (∀ (off : FrameOffset) (n : Nat), off.toNat + n ≤ 302 → exec (.rdbe off n) s = .fault .windowByteHasNoValue))

/-- Every step keeps the window's canonical form, whatever the rest of the state is. -/
def Obligations.EveryStepKeepsTheWindowForm : Prop :=
  ∀ s t : State, Memory.wf s.win → step s = .next t → Memory.wf t.win

/-- 10_state.md R26: the normalised frame is defined exactly in OK and after BADSYNC, and is the window. -/
def Obligations.NormalisedFrameIsDefinedAsGiven : Prop :=
  ∀ s : State, s.Inv →
    (s.normalisedFrame.isSome = true ↔ s.state = .ok ∨ (s.state = .err ∧ s.errCode = .badSync)) ∧
    (∀ F : Frame, s.normalisedFrame = some F →
      302 ≤ s.cnt.toNat ∧ F.length = 302 ∧ ∀ i < 302, Memory.read s.win i = some (F.byte i))

/-- 60_exceptions.md R337: a step of one instance is that instance's own step and leaves every other instance alone. -/
def Obligations.InstancesNeverInteract : Prop :=
  ∀ (p p' : Platform) (k : Nat), Platform.stepInstance p k = some (.next p') →
    (∃ s t, p[k]? = some s ∧ step s = .next t ∧ p'[k]? = some t) ∧ p'.length = p.length ∧
    ∀ j, j ≠ k → p'[j]? = p[j]?
end

