-- ==== Sys2Proof/Laws/Frame.lean ====
section
/-! SUPPORT. The small lemmas of the frame primitives (20_memory.md R70 to R72; 43_sips_header.md R212). -/

namespace Sys2Proof.Machine

@[simp] theorem memRead_length (F : Frame) (a n : Nat) : (F.memRead a n).length = n := by simp [Frame.memRead]

theorem memRead_zero (F : Frame) (a : Nat) : F.memRead a 0 = [] := rfl

theorem memRead_succ (F : Frame) (a n : Nat) : F.memRead a (n + 1) = F.byte a :: F.memRead (a + 1) n := by
  simp [Frame.memRead, List.range_succ_eq_map, Function.comp_def, Nat.add_assoc, Nat.add_comm 1]

theorem memRead_snoc (F : Frame) (a n : Nat) : F.memRead a (n + 1) = F.memRead a n ++ [F.byte (a + n)] := by
  simp [Frame.memRead, List.range_succ]

@[simp] theorem beValue_nil : beValue [] = 0 := rfl

@[simp] theorem beValue_snoc (bs : List Byte) (b : Byte) : beValue (bs ++ [b]) = beValue bs * 256 + b.toNat := by
  simp [beValue, List.foldl_append]

@[simp] theorem leValue_nil : leValue [] = 0 := rfl

@[simp] theorem leValue_cons (b : Byte) (bs : List Byte) : leValue (b :: bs) = b.toNat + 256 * leValue bs := rfl

@[simp] theorem be_zero (F : Frame) (a : Nat) : F.be a 0 = 0 := rfl

theorem be_succ (F : Frame) (a n : Nat) : F.be a (n + 1) = F.be a n * 256 + (F.byte (a + n)).toNat := by
  simp [Frame.be, memRead_snoc]

@[simp] theorem le_zero (F : Frame) (a : Nat) : F.le a 0 = 0 := rfl

theorem le_succ (F : Frame) (a n : Nat) : F.le a (n + 1) = (F.byte a).toNat + 256 * F.le (a + 1) n := by
  simp [Frame.le, memRead_succ]

/-- `BE(a, n)` has 8n bits (20_memory.md R70). -/
theorem be_lt (F : Frame) (a n : Nat) : F.be a n < 256 ^ n := by
  induction n with
  | zero => simp
  | succ n ih =>
    have := (F.byte (a + n)).isLt
    rw [be_succ, Nat.pow_succ]
    omega

/-- `LE(a, n)` has 8n bits (20_memory.md R71). -/
theorem le_lt (F : Frame) (a n : Nat) : F.le a n < 256 ^ n := by
  induction n generalizing a with
  | zero => simp
  | succ n ih =>
    have := (F.byte a).isLt
    have := ih (a + 1)
    rw [le_succ, Nat.pow_succ]
    omega

/-- `lbits(a, b)` has b - a + 1 bits (20_memory.md R72). -/
theorem lbits_lt (F : Frame) (a b : Nat) : F.lbits a b < 2 ^ (b - a + 1) := Nat.mod_lt _ (Nat.two_pow_pos _)

theorem tlen_zero (F : Frame) (a : Nat) : F.tlen a 0 = 0 := rfl

theorem tlen_succ (F : Frame) (a w : Nat) : F.tlen a (w + 1) = if F.byte (a + w) ≠ 0#8 then w + 1 else F.tlen a w := rfl

theorem tlen_le (F : Frame) (a w : Nat) : F.tlen a w ≤ w := by
  induction w with
  | zero => simp [tlen_zero]
  | succ w ih => rw [tlen_succ]; split <;> omega

end Sys2Proof.Machine
end

