-- ==== Sys2Proof/Laws/Memory.lean ====
section
/-! SUPPORT. The laws of the window: what each operation leaves to be read, and that each keeps the canonical form. -/

namespace Sys2Proof.Machine

@[simp] theorem Memory.read_empty (a : Nat) : Memory.read Memory.empty a = none := rfl

@[simp] theorem Memory.read_nil (a : Nat) : Memory.read [] a = none := rfl

theorem Memory.read_cons (c : Host.Cell) (m : Memory) (a : Nat) :
    Memory.read (c :: m) a = if a = c.1 then some c.2 else Memory.read m a := by
  obtain ⟨k, v⟩ := c
  by_cases h : a = k
  · simp [Memory.read, List.lookup, h]
  · simp [Memory.read, List.lookup, h, beq_eq_false_iff_ne.2 h]

/-- A read after a write to the same address gives the byte written. -/
@[simp] theorem Memory.read_write_same (m : Memory) (a : Nat) (b : Byte) : Memory.read (Memory.write m a b) a = some b := by
  induction m with
  | nil => simp [Memory.write, Memory.read_cons]
  | cons c m ih =>
    unfold Memory.write
    split
    · simp [Memory.read_cons]
    · split
      · simp [Memory.read_cons]
      · next h => simp [Memory.read_cons, h, ih]

/-- A write leaves every other address alone. -/
theorem Memory.read_write_other (m : Memory) {a a' : Nat} (b : Byte) (h : a' ≠ a) :
    Memory.read (Memory.write m a b) a' = Memory.read m a' := by
  induction m with
  | nil => simp [Memory.write, Memory.read_cons, h]
  | cons c m ih =>
    unfold Memory.write
    split
    · simp [Memory.read_cons, h]
    · split
      · next e => subst e; simp [Memory.read_cons, h]
      · simp [Memory.read_cons, ih]

/-- The shift moves every byte one address down. -/
theorem Memory.read_shiftDown (m : Memory) (a : Nat) : Memory.read (Memory.shiftDown m) a = Memory.read m (a + 1) := by
  induction m with
  | nil => rfl
  | cons c m ih =>
    obtain ⟨k, v⟩ := c
    cases k with
    | zero => simp [Memory.shiftDown, Memory.read_cons, ih]
    | succ k => simp [Memory.shiftDown, Memory.read_cons, ih]

/-- What the window holds after a byte is shifted in (40_control.md R135). -/
theorem Memory.read_pushByte (m : Memory) (b : Byte) (a : Nat) :
    Memory.read (Memory.pushByte m b) a = if a = 301 then some b else Memory.read m (a + 1) := by
  unfold Memory.pushByte
  split
  · next h => subst h; simp
  · next h => rw [Memory.read_write_other _ _ h, Memory.read_shiftDown]

theorem Memory.mem_shiftDown (m : Memory) (c : Host.Cell) : c ∈ Memory.shiftDown m ↔ (c.1 + 1, c.2) ∈ m := by
  induction m with
  | nil => simp [Memory.shiftDown]
  | cons d m ih =>
    obtain ⟨k, v⟩ := d
    obtain ⟨j, u⟩ := c
    cases k with
    | zero => simpa [Memory.shiftDown] using ih
    | succ k => simpa [Memory.shiftDown] using or_congr_right ih

theorem Memory.mem_write (m : Memory) (a : Nat) (b : Byte) (c : Host.Cell) (h : c ∈ Memory.write m a b) :
    c = (a, b) ∨ c ∈ m := by
  induction m with
  | nil => simpa [Memory.write] using h
  | cons d m ih =>
    unfold Memory.write at h
    split at h
    · simpa using h
    · split at h
      · rcases List.mem_cons.1 h with h | h
        · exact .inl h
        · exact .inr (List.mem_cons_of_mem _ h)
      · rcases List.mem_cons.1 h with h | h
        · exact .inr (h ▸ List.mem_cons_self)
        · exact (ih h).imp_right (List.mem_cons_of_mem _)

theorem Memory.wf_empty : Memory.wf Memory.empty := ⟨List.Pairwise.nil, by simp [Memory.empty]⟩

theorem Memory.wf_shiftDown {m : Memory} (h : Memory.wf m) : Memory.wf (Memory.shiftDown m) := by
  refine ⟨?_, fun c hc => Nat.lt_of_succ_lt (h.2 _ ((Memory.mem_shiftDown m c).1 hc))⟩
  have hp := h.1
  clear h
  induction m with
  | nil => simp [Memory.shiftDown]
  | cons d m ih =>
    obtain ⟨k, v⟩ := d
    have hp' := List.pairwise_cons.1 hp
    cases k with
    | zero => exact ih hp'.2
    | succ k =>
      refine List.pairwise_cons.2 ⟨fun c hc => ?_, ih hp'.2⟩
      exact Nat.lt_of_succ_lt_succ (hp'.1 _ ((Memory.mem_shiftDown m c).1 hc))

theorem Memory.wf_write {m : Memory} (h : Memory.wf m) {a : Nat} (ha : a < Config.frameLen) (b : Byte) :
    Memory.wf (Memory.write m a b) := by
  refine ⟨?_, fun c hc => ?_⟩
  · have hp := h.1
    clear h
    induction m with
    | nil => simp [Memory.write]
    | cons d m ih =>
      have hp' := List.pairwise_cons.1 hp
      unfold Memory.write
      split
      · next hlt =>
        refine List.pairwise_cons.2 ⟨fun c hc => ?_, hp⟩
        rcases List.mem_cons.1 hc with rfl | hc
        · exact hlt
        · exact Nat.lt_trans hlt (hp'.1 c hc)
      · split
        · next e => subst e; exact List.pairwise_cons.2 ⟨hp'.1, hp'.2⟩
        · next h1 h2 =>
          refine List.pairwise_cons.2 ⟨fun c hc => ?_, ih hp'.2⟩
          rcases Memory.mem_write m a b c hc with rfl | hc
          · exact lt_of_le_of_ne (Nat.le_of_not_lt h1) (Ne.symm h2)
          · exact hp'.1 c hc
  · rcases Memory.mem_write m a b c hc with rfl | hc
    · exact ha
    · exact h.2 c hc

/-- A shift-in keeps the canonical form. -/
theorem Memory.wf_pushByte {m : Memory} (h : Memory.wf m) (b : Byte) : Memory.wf (Memory.pushByte m b) :=
  Memory.wf_write (Memory.wf_shiftDown h) (by decide) b

theorem Memory.wf_reset : Memory.wf State.reset.win := Memory.wf_empty

/-- A block read that answers gives the bytes that reads of the single addresses give. -/
theorem Memory.readBlock_some {m : Memory} {a n : Nat} {l : List Byte} (h : Memory.readBlock m a n = some l) :
    l.length = n ∧ ∀ i < n, Memory.read m (a + i) = l[i]? := by
  induction m generalizing a n l with
  | nil =>
    cases n with
    | zero => cases h; simp
    | succ n => cases h
  | cons c m ih =>
    cases n with
    | zero => cases h; simp
    | succ n =>
      rw [Memory.readBlock] at h
      split at h
      · next hlt =>
        obtain ⟨h1, h2⟩ := ih h
        refine ⟨h1, fun i hi => ?_⟩
        rw [Memory.read_cons, if_neg (by omega), h2 i hi]
      · split at h
        · next he =>
          obtain ⟨l', hl, rfl⟩ := Option.map_eq_some_iff.1 h
          obtain ⟨h1, h2⟩ := ih hl
          refine ⟨by simp [h1], fun i hi => ?_⟩
          rw [Memory.read_cons]
          cases i with
          | zero => simp [he]
          | succ i =>
            rw [if_neg (by omega), show a + (i + 1) = a + 1 + i by omega, h2 i (by omega)]
            simp
        · cases h

/-- In the canonical form, an address below the first listed one holds no value. -/
theorem Memory.read_below {c : Host.Cell} {m : Memory} (h : (c :: m).Pairwise (fun x y => x.1 < y.1)) {a : Nat} (ha : a < c.1) :
    Memory.read (c :: m) a = none := by
  have hp := List.pairwise_cons.1 h
  rw [Memory.read_cons, if_neg (by omega)]
  have hall : ∀ d ∈ m, a < d.1 := fun d hd => Nat.lt_trans ha (hp.1 d hd)
  clear h hp
  induction m with
  | nil => rfl
  | cons d m ih =>
    rw [Memory.read_cons, if_neg (Nat.ne_of_lt (hall d List.mem_cons_self)), ih (fun e he => hall e (List.mem_cons_of_mem _ he))]

/-- In the canonical form, a block whose every byte holds a value is read. -/
theorem Memory.readBlock_isSome {m : Memory} (hw : m.Pairwise (fun x y => x.1 < y.1)) {a n : Nat}
    (h : ∀ i < n, (Memory.read m (a + i)).isSome = true) : (Memory.readBlock m a n).isSome = true := by
  induction m generalizing a n with
  | nil =>
    cases n with
    | zero => rfl
    | succ n => exact absurd (h 0 (Nat.succ_pos n)) (by simp)
  | cons c m ih =>
    cases n with
    | zero => rfl
    | succ n =>
      have hp := List.pairwise_cons.1 hw
      have h0 := h 0 (Nat.succ_pos n)
      rw [Memory.readBlock]
      split
      · next hlt =>
        refine ih hp.2 (fun i hi => ?_)
        have := h i hi
        rwa [Memory.read_cons, if_neg (by omega)] at this
      · split
        · next he =>
          rw [Option.isSome_map]
          refine ih hp.2 (fun i hi => ?_)
          have := h (i + 1) (Nat.succ_lt_succ hi)
          rwa [Memory.read_cons, if_neg (by omega), show a + (i + 1) = a + 1 + i by omega] at this
        · next hlt hne =>
          rw [Nat.add_zero, Memory.read_below hw (by omega)] at h0
          cases h0

/-- The normalised frame of a window is its 302 bytes. -/
theorem Memory.wholeWindow_some {m : Memory} {F : List Byte} (h : Memory.wholeWindow m = some F) :
    F.length = 302 ∧ ∀ i < 302, Memory.read m i = F[i]? := by
  simpa using Memory.readBlock_some (a := 0) h

/-- In the canonical form, the normalised frame is the 302 bytes. -/
theorem Memory.wholeWindow_eq_some {m : Memory} (hw : Memory.wf m) (F : List Byte) :
    Memory.wholeWindow m = some F ↔ F.length = 302 ∧ ∀ i < 302, Memory.read m i = F[i]? := by
  refine ⟨Memory.wholeWindow_some, fun ⟨hl, hr⟩ => ?_⟩
  have hs : (Memory.wholeWindow m).isSome = true :=
    Memory.readBlock_isSome hw.1 (fun i hi => by rw [Nat.zero_add, hr i hi]; simp [hl]; exact hi)
  obtain ⟨G, hG⟩ := Option.isSome_iff_exists.1 hs
  obtain ⟨hl', hr'⟩ := Memory.wholeWindow_some hG
  rw [hG]
  congr 1
  refine List.ext_getElem? (fun i => ?_)
  by_cases hi : i < 302
  · rw [← hr' i hi, hr i hi]
  · rw [List.getElem?_eq_none (by omega), List.getElem?_eq_none (by omega)]

/-- In the canonical form, a window all of whose bytes hold a value has a normalised frame. -/
theorem Memory.wholeWindow_isSome {m : Memory} (hw : Memory.wf m) :
    (Memory.wholeWindow m).isSome = true ↔ ∀ i < 302, (Memory.read m i).isSome = true := by
  constructor
  · intro h i hi
    obtain ⟨l, hl⟩ := Option.isSome_iff_exists.1 h
    obtain ⟨h1, h2⟩ := Memory.wholeWindow_some hl
    rw [h2 i hi]
    simp [h1, hi]
  · intro h
    exact Memory.readBlock_isSome hw.1 (fun i hi => by rw [Nat.zero_add]; exact h i hi)

end Sys2Proof.Machine
end

