-- ==== Sys2Proof/Laws/State.lean ====
section
/-! SUPPORT. One lemma per field per update of the state, so that no proof unfolds a record update. -/

namespace Sys2Proof.Machine

@[simp] theorem respond_state (s : State) (v : Response) : (s.respond v).state = s.state := rfl
@[simp] theorem respond_win (s : State) (v : Response) : (s.respond v).win = s.win := rfl
@[simp] theorem respond_cnt (s : State) (v : Response) : (s.respond v).cnt = s.cnt := rfl
@[simp] theorem respond_errCode (s : State) (v : Response) : (s.respond v).errCode = s.errCode := rfl
@[simp] theorem respond_sync (s : State) (v : Response) : (s.respond v).sync = s.sync := rfl
@[simp] theorem respond_anom (s : State) (v : Response) : (s.respond v).anom = s.anom := rfl
@[simp] theorem respond_cmdErr (s : State) (v : Response) : (s.respond v).cmdErr = s.cmdErr := rfl
@[simp] theorem respond_port (s : State) (v : Response) : (s.respond v).port = s.port := rfl
@[simp] theorem respond_resps (s : State) (v : Response) : (s.respond v).resps = s.resps ++ [v] := rfl

@[simp] theorem failTooShort_state (s : State) : (failTooShort s).state = .err := rfl
@[simp] theorem failTooShort_win (s : State) : (failTooShort s).win = s.win := rfl
@[simp] theorem failTooShort_cnt (s : State) : (failTooShort s).cnt = s.cnt := rfl
@[simp] theorem failTooShort_errCode (s : State) : (failTooShort s).errCode = .tooShort := rfl
@[simp] theorem failTooShort_sync (s : State) : (failTooShort s).sync = 0#16 := rfl
@[simp] theorem failTooShort_anom (s : State) : (failTooShort s).anom = 0#9 := rfl
@[simp] theorem failTooShort_cmdErr (s : State) : (failTooShort s).cmdErr = s.cmdErr := rfl
@[simp] theorem failTooShort_port (s : State) : (failTooShort s).port = s.port := rfl
@[simp] theorem failTooShort_resps (s : State) : (failTooShort s).resps = s.resps := rfl

@[simp] theorem failBadSync_state (v : BitVec 16) (s : State) : (failBadSync v s).state = .err := rfl
@[simp] theorem failBadSync_win (v : BitVec 16) (s : State) : (failBadSync v s).win = s.win := rfl
@[simp] theorem failBadSync_cnt (v : BitVec 16) (s : State) : (failBadSync v s).cnt = s.cnt := rfl
@[simp] theorem failBadSync_errCode (v : BitVec 16) (s : State) : (failBadSync v s).errCode = .badSync := rfl
@[simp] theorem failBadSync_sync (v : BitVec 16) (s : State) : (failBadSync v s).sync = v := rfl
@[simp] theorem failBadSync_anom (v : BitVec 16) (s : State) : (failBadSync v s).anom = 0#9 := rfl
@[simp] theorem failBadSync_cmdErr (v : BitVec 16) (s : State) : (failBadSync v s).cmdErr = s.cmdErr := rfl
@[simp] theorem failBadSync_port (v : BitVec 16) (s : State) : (failBadSync v s).port = s.port := rfl
@[simp] theorem failBadSync_resps (v : BitVec 16) (s : State) : (failBadSync v s).resps = s.resps := rfl

@[simp] theorem acceptRecord_state (v : BitVec 16) (F : Frame) (s : State) : (acceptRecord v F s).state = .ok := rfl
@[simp] theorem acceptRecord_win (v : BitVec 16) (F : Frame) (s : State) : (acceptRecord v F s).win = s.win := rfl
@[simp] theorem acceptRecord_cnt (v : BitVec 16) (F : Frame) (s : State) : (acceptRecord v F s).cnt = s.cnt := rfl
@[simp] theorem acceptRecord_errCode (v : BitVec 16) (F : Frame) (s : State) : (acceptRecord v F s).errCode = .none := rfl
@[simp] theorem acceptRecord_sync (v : BitVec 16) (F : Frame) (s : State) : (acceptRecord v F s).sync = v := rfl
@[simp] theorem acceptRecord_anom (v : BitVec 16) (F : Frame) (s : State) : (acceptRecord v F s).anom = F.anomalies := rfl
@[simp] theorem acceptRecord_cmdErr (v : BitVec 16) (F : Frame) (s : State) : (acceptRecord v F s).cmdErr = s.cmdErr := rfl
@[simp] theorem acceptRecord_port (v : BitVec 16) (F : Frame) (s : State) : (acceptRecord v F s).port = s.port := rfl
@[simp] theorem acceptRecord_resps (v : BitVec 16) (F : Frame) (s : State) : (acceptRecord v F s).resps = s.resps := rfl

@[simp] theorem openBuffer_state (s : State) : (openBuffer s).state = .fill := rfl
@[simp] theorem openBuffer_win (s : State) : (openBuffer s).win = [] := rfl
@[simp] theorem openBuffer_cnt (s : State) : (openBuffer s).cnt = 0#32 := rfl
@[simp] theorem openBuffer_errCode (s : State) : (openBuffer s).errCode = .none := rfl
@[simp] theorem openBuffer_sync (s : State) : (openBuffer s).sync = 0#16 := rfl
@[simp] theorem openBuffer_anom (s : State) : (openBuffer s).anom = 0#9 := rfl
@[simp] theorem openBuffer_cmdErr (s : State) : (openBuffer s).cmdErr = s.cmdErr := rfl
@[simp] theorem openBuffer_port (s : State) : (openBuffer s).port = s.port := rfl
@[simp] theorem openBuffer_resps (s : State) : (openBuffer s).resps = s.resps := rfl

@[simp] theorem resetElements_state (s : State) : (resetElements s).state = .idle := rfl
@[simp] theorem resetElements_win (s : State) : (resetElements s).win = [] := rfl
@[simp] theorem resetElements_cnt (s : State) : (resetElements s).cnt = 0#32 := rfl
@[simp] theorem resetElements_errCode (s : State) : (resetElements s).errCode = .none := rfl
@[simp] theorem resetElements_sync (s : State) : (resetElements s).sync = 0#16 := rfl
@[simp] theorem resetElements_anom (s : State) : (resetElements s).anom = 0#9 := rfl
@[simp] theorem resetElements_cmdErr (s : State) : (resetElements s).cmdErr = false := rfl
@[simp] theorem resetElements_port (s : State) : (resetElements s).port = s.port := rfl
@[simp] theorem resetElements_resps (s : State) : (resetElements s).resps = s.resps := rfl

@[simp] theorem shiftIn_state (b : Byte) (s : State) : (shiftIn b s).state = s.state := rfl
@[simp] theorem shiftIn_win (b : Byte) (s : State) : (shiftIn b s).win = Memory.pushByte s.win b := rfl
@[simp] theorem shiftIn_cnt (b : Byte) (s : State) : (shiftIn b s).cnt = countUp s.cnt := rfl
@[simp] theorem shiftIn_errCode (b : Byte) (s : State) : (shiftIn b s).errCode = s.errCode := rfl
@[simp] theorem shiftIn_sync (b : Byte) (s : State) : (shiftIn b s).sync = s.sync := rfl
@[simp] theorem shiftIn_anom (b : Byte) (s : State) : (shiftIn b s).anom = s.anom := rfl
@[simp] theorem shiftIn_cmdErr (b : Byte) (s : State) : (shiftIn b s).cmdErr = s.cmdErr := rfl
@[simp] theorem shiftIn_port (b : Byte) (s : State) : (shiftIn b s).port = s.port := rfl
@[simp] theorem shiftIn_resps (b : Byte) (s : State) : (shiftIn b s).resps = s.resps := rfl

@[simp] theorem withFetchWord_state (s : State) (nbits w : Nat) : (s.withFetchWord nbits w).state = s.state := rfl
@[simp] theorem withFetchWord_win (s : State) (nbits w : Nat) : (s.withFetchWord nbits w).win = s.win := rfl
@[simp] theorem withFetchWord_cnt (s : State) (nbits w : Nat) : (s.withFetchWord nbits w).cnt = s.cnt := rfl
@[simp] theorem withFetchWord_errCode (s : State) (nbits w : Nat) : (s.withFetchWord nbits w).errCode = s.errCode := rfl
@[simp] theorem withFetchWord_sync (s : State) (nbits w : Nat) : (s.withFetchWord nbits w).sync = s.sync := rfl
@[simp] theorem withFetchWord_anom (s : State) (nbits w : Nat) : (s.withFetchWord nbits w).anom = s.anom := rfl
@[simp] theorem withFetchWord_cmdErr (s : State) (nbits w : Nat) : (s.withFetchWord nbits w).cmdErr = s.cmdErr := rfl
@[simp] theorem withFetchWord_port (s : State) (nbits w : Nat) : (s.withFetchWord nbits w).port = .command (tableWord nbits w) :: s.port := rfl
@[simp] theorem withFetchWord_resps (s : State) (nbits w : Nat) : (s.withFetchWord nbits w).resps = s.resps := rfl

theorem hardwareReset_eq (w : Option CommandWord) (s : State) : hardwareReset w s = resetElements s := rfl

/-- What a command error does, whatever its cause (60_exceptions.md R330). -/
theorem raiseCmdError_eq (c : CmdCause) (opc : Opcode) (s : State) :
    raiseCmdError c opc s =
      { s with cmdErr := true, resps := if opcReturnsResponse opc then s.resps ++ [0#64] else s.resps } := by
  unfold raiseCmdError State.respond; split <;> rfl

@[simp] theorem raiseCmdError_state (c : CmdCause) (opc : Opcode) (s : State) :
    (raiseCmdError c opc s).state = s.state := by rw [raiseCmdError_eq]
@[simp] theorem raiseCmdError_win (c : CmdCause) (opc : Opcode) (s : State) :
    (raiseCmdError c opc s).win = s.win := by rw [raiseCmdError_eq]
@[simp] theorem raiseCmdError_cnt (c : CmdCause) (opc : Opcode) (s : State) :
    (raiseCmdError c opc s).cnt = s.cnt := by rw [raiseCmdError_eq]
@[simp] theorem raiseCmdError_errCode (c : CmdCause) (opc : Opcode) (s : State) :
    (raiseCmdError c opc s).errCode = s.errCode := by rw [raiseCmdError_eq]
@[simp] theorem raiseCmdError_sync (c : CmdCause) (opc : Opcode) (s : State) :
    (raiseCmdError c opc s).sync = s.sync := by rw [raiseCmdError_eq]
@[simp] theorem raiseCmdError_anom (c : CmdCause) (opc : Opcode) (s : State) :
    (raiseCmdError c opc s).anom = s.anom := by rw [raiseCmdError_eq]
@[simp] theorem raiseCmdError_cmdErr (c : CmdCause) (opc : Opcode) (s : State) :
    (raiseCmdError c opc s).cmdErr = true := by rw [raiseCmdError_eq]
@[simp] theorem raiseCmdError_port (c : CmdCause) (opc : Opcode) (s : State) :
    (raiseCmdError c opc s).port = s.port := by rw [raiseCmdError_eq]
@[simp] theorem raiseCmdError_resps (c : CmdCause) (opc : Opcode) (s : State) :
    (raiseCmdError c opc s).resps = if opcReturnsResponse opc then s.resps ++ [0#64] else s.resps := by rw [raiseCmdError_eq]

@[simp] theorem reset_state : State.reset.state = .idle := rfl
@[simp] theorem reset_win : State.reset.win = [] := rfl
@[simp] theorem reset_cnt : State.reset.cnt = 0#32 := rfl
@[simp] theorem reset_errCode : State.reset.errCode = .none := rfl
@[simp] theorem reset_sync : State.reset.sync = 0#16 := rfl
@[simp] theorem reset_anom : State.reset.anom = 0#9 := rfl
@[simp] theorem reset_cmdErr : State.reset.cmdErr = false := rfl
@[simp] theorem reset_port : State.reset.port = [] := rfl
@[simp] theorem reset_resps : State.reset.resps = [] := rfl

/-- The three outcomes of `END`'s validator and decoder on a long enough buffer are two (40_control.md R138). -/
theorem validateAndDecode_eq (F : Frame) (s : State) :
    validateAndDecode F s =
      if syncValid (F.be 300 2) then acceptRecord (BitVec.ofNat 16 (F.be 300 2)) F s
      else failBadSync (BitVec.ofNat 16 (F.be 300 2)) s := rfl

@[simp] theorem validateAndDecode_win (F : Frame) (s : State) : (validateAndDecode F s).win = s.win := by
  rw [validateAndDecode_eq]; split <;> rfl
@[simp] theorem validateAndDecode_cnt (F : Frame) (s : State) : (validateAndDecode F s).cnt = s.cnt := by
  rw [validateAndDecode_eq]; split <;> rfl
@[simp] theorem validateAndDecode_cmdErr (F : Frame) (s : State) : (validateAndDecode F s).cmdErr = s.cmdErr := by
  rw [validateAndDecode_eq]; split <;> rfl
@[simp] theorem validateAndDecode_port (F : Frame) (s : State) : (validateAndDecode F s).port = s.port := by
  rw [validateAndDecode_eq]; split <;> rfl
@[simp] theorem validateAndDecode_resps (F : Frame) (s : State) : (validateAndDecode F s).resps = s.resps := by
  rw [validateAndDecode_eq]; split <;> rfl

end Sys2Proof.Machine
end

