-- ==== Sys2Proof/Laws/Ops.lean ====
section
/-! SUPPORT. What each shared operation can do, said once: the lemmas proofs cite instead of unfolding it. -/

namespace Sys2Proof.Machine

@[simp] theorem guarded_none (opc : Opcode) (s : State) (e : StepOutcome) : guarded none opc s e = e := rfl

@[simp] theorem guarded_some (c : CmdCause) (opc : Opcode) (s : State) (e : StepOutcome) :
    guarded (some c) opc s e = .next (raiseCmdError c opc s) := rfl

/-- A guarded command that answers a next state raised a command error or had its effect. -/
theorem guarded_next {c : Check} {opc : Opcode} {s t : State} {e : StepOutcome} (h : guarded c opc s e = .next t) :
    (∃ cause, c = some cause ∧ t = raiseCmdError cause opc s) ∨ (c = none ∧ e = .next t) := by
  cases c with
  | none => exact .inr ⟨rfl, h⟩
  | some cause => exact .inl ⟨cause, rfl, (Host.Outcome.next.inj h).symm⟩

/-- With a whole window, the continuation runs on its frame. -/
theorem withFrame_of_whole {s : State} {F : Frame} (h : Memory.wholeWindow s.win = some F) (k : Frame → StepOutcome) :
    withFrame s k = k F := by simp [withFrame, h]

/-- A frame read that answers a next state read a whole window. -/
theorem withFrame_next {s t : State} {k : Frame → StepOutcome} (h : withFrame s k = .next t) :
    ∃ F : Frame, Memory.wholeWindow s.win = some F ∧ k F = .next t := by
  unfold withFrame at h
  split at h
  · next F hF => exact ⟨F, hF, h⟩
  · cases h

@[simp] theorem check_none_andThen (d : Check) : Check.andThen none d = d := rfl

@[simp] theorem check_some_andThen (c : CmdCause) (d : Check) : Check.andThen (some c) d = some c := rfl

theorem requireFill_eq_none {s : State} : requireFill s = none ↔ s.state = .fill := by unfold requireFill; split <;> simp_all

theorem requireRecord_eq_none {s : State} : requireRecord s = none ↔ s.state = .ok := by
  unfold requireRecord; split <;> simp_all

theorem requireFrame_eq_none {s : State} : requireFrame s = none ↔ s.frameDefined = true := by
  unfold requireFrame; split <;> simp_all

theorem requireOperand_eq_none {b : Bool} : requireOperand b = none ↔ b = true := by
  unfold requireOperand; split <;> simp_all

theorem andThen_eq_none {c d : Check} : c.andThen d = none ↔ c = none ∧ d = none := by
  cases c <;> simp

/-- `F` is defined exactly in OK, and in ERR after BADSYNC (10_state.md R26). -/
theorem frameDefined_iff (s : State) : s.frameDefined = true ↔ s.state = .ok ∨ (s.state = .err ∧ s.errCode = .badSync) := by
  simp [State.frameDefined]

/-- The counter saturates (10_state.md R25). -/
theorem countUp_toNat (c : BitVec 32) : (countUp c).toNat = min (c.toNat + 1) 0xFFFFFFFF := by
  have := c.isLt
  unfold countUp
  split
  · next h => simp only [BitVec.toNat_add] at *; simp at h ⊢; omega
  · next h => simp at h; omega

/-- With nothing on the port there is nothing to take. -/
@[simp] theorem takeEvent_of_empty {s : State} (h : s.port = []) : takeEvent s = none := by simp [takeEvent, h]

/-- The head of the port is taken. -/
@[simp] theorem takeEvent_of_cons {s : State} {e : PortEvent} {es : List PortEvent} (h : s.port = e :: es) :
    takeEvent s = some (e, { s with port := es }) := by simp [takeEvent, h]

/-- Everything a step that answers a next state can have done. -/
theorem step_next {s t : State} (h : step s = .next t) :
    (s.port = [] ∧ t = s) ∨
    (∃ w es, s.port = .command w :: es ∧ runWord w { s with port := es } = .next t) ∨
    (∃ a es, s.port = .hardReset a :: es ∧ t = resetElements { s with port := es }) := by
  cases hp : s.port with
  | nil => rw [step, takeEvent_of_empty hp] at h; exact .inl ⟨rfl, (Host.Outcome.next.inj h).symm⟩
  | cons e es =>
    rw [step, takeEvent_of_cons hp] at h
    cases e with
    | command w => exact .inr (.inl ⟨w, es, rfl, h⟩)
    | hardReset a => exact .inr (.inr ⟨a, es, rfl, (Host.Outcome.next.inj h).symm⟩)

/-- Everything a command word that answers a next state can have done. -/
theorem runWord_next {w : CommandWord} {s t : State} (h : runWord w s = .next t) :
    (∃ i, decode w = .ok i ∧ exec i s = .next t) ∨
    (∃ e, decode w = .error e ∧ t = raiseCmdError .illegal (opcodeOf w) s) := by
  unfold runWord at h
  split at h
  · next i hi => exact .inl ⟨i, hi, h⟩
  · next e he => exact .inr ⟨e, he, (Host.Outcome.next.inj h).symm⟩

end Sys2Proof.Machine
end

