-- ==== Sys2Proof/Laws/Run.lean ====
section
/-! SUPPORT. Steps in terms of the port, and runs of several steps. -/

namespace Sys2Proof.Machine

/-- A step with a command word at the head of the port runs the word. -/
theorem step_of_command {s : State} {w : CommandWord} {es : List PortEvent} (h : s.port = .command w :: es) :
    step s = runWord w { s with port := es } := by simp [step, takeEvent_of_cons h]

/-- A step with the hardware reset at the head of the port resets. -/
theorem step_of_hardReset {s : State} {a : Option CommandWord} {es : List PortEvent} (h : s.port = .hardReset a :: es) :
    step s = .next (resetElements { s with port := es }) := by simp [step, takeEvent_of_cons h, hardwareReset_eq]

/-- A step with nothing on the port waits. -/
theorem step_of_empty {s : State} (h : s.port = []) : step s = .next s := by simp [step, takeEvent_of_empty h]

theorem runSteps_zero (s : State) : runSteps 0 s = .next s := rfl

/-- A run is its first step and the rest. -/
theorem runSteps_succ (n : Nat) (s : State) :
    runSteps (n + 1) s =
      (match step s with
       | .next t => runSteps n t
       | .fault r => .fault r
       | .refused r => .refused r) := by
  have h0 : runSteps (n + 1) s = Host.Core.run Sys2Proof.core (n + 1) s := rfl
  rw [h0]
  simp only [Host.Core.run]
  cases hs : step s with
  | next t =>
    have h : Sys2Proof.core.step s = .next t := hs
    simp only [h]
    rfl
  | fault r =>
    have h : Sys2Proof.core.step s = .fault r := hs
    simp only [h]
    rfl
  | refused r =>
    have h : Sys2Proof.core.step s = .refused r := hs
    simp only [h]
    rfl

theorem runSteps_of_step {s t : State} {n : Nat} (h : step s = .next t) : runSteps (n + 1) s = runSteps n t := by
  rw [runSteps_succ, h]

/-- Runs compose. -/
theorem runSteps_add {s t : State} {n m : Nat} (h : runSteps n s = .next t) : runSteps (n + m) s = runSteps m t := by
  induction n generalizing s with
  | zero => obtain rfl := Host.Outcome.next.inj h; simp
  | succ n ih =>
    rw [show n + 1 + m = (n + m) + 1 by omega, runSteps_succ]
    rw [runSteps_succ] at h
    cases hs : step s with
    | next u => rw [hs] at h; exact ih h
    | fault r => rw [hs] at h; cases h
    | refused r => rw [hs] at h; cases h

/-- A property that every step answers a next state with goes along every run: the induction over steps, done once. -/
theorem runSteps_of_invariant {I : State → Prop} (hI : ∀ s, I s → ∃ t, step s = .next t ∧ I t) (n : Nat) {s : State}
    (h : I s) : ∃ t, runSteps n s = .next t ∧ I t := by
  induction n generalizing s with
  | zero => exact ⟨s, runSteps_zero s, h⟩
  | succ n ih =>
    obtain ⟨u, hu, hIu⟩ := hI s h
    rw [runSteps_of_step hu]
    exact ih hIu

end Sys2Proof.Machine
end

