-- ==== Sys2Proof/Laws/Commands.lean ====
section
/-! SUPPORT. What a command does once its checks have passed, and what a whole window says of each byte. -/

namespace Sys2Proof.Machine

/-- `PUSH` in FILL shifts the byte in. -/
theorem exec_push_of_fill {s : State} (b : Byte) (h : s.state = .fill) : exec (.push b) s = .next (shiftIn b s) := by
  show execPush b s = _
  rw [execPush, requireFill_eq_none.2 h, guarded_none]

/-- `END` in FILL with fewer than 302 bytes. -/
theorem exec_end_of_short {s : State} (h : s.state = .fill) (hc : s.cnt.toNat < 302) :
    exec .endBuffer s = .next (failTooShort s) := by
  show execEnd s = _
  rw [execEnd, requireFill_eq_none.2 h, guarded_none, if_pos hc]

/-- `END` in FILL on a whole window. -/
theorem exec_end_of_whole {s : State} {F : Frame} (h : s.state = .fill) (hc : 302 ≤ s.cnt.toNat)
    (hF : Memory.wholeWindow s.win = some F) : exec .endBuffer s = .next (validateAndDecode F s) := by
  show execEnd s = _
  rw [execEnd, requireFill_eq_none.2 h, guarded_none, if_neg (Nat.not_lt.2 hc), withFrame_of_whole hF]

/-- `RDREG` of a result register with a record to read. -/
theorem exec_rdreg_of_record {s : State} {r : RegNumber} {q : ResultReg} {F : Frame} (h : registerOf r = some (.result q))
    (hs : s.state = .ok) (hF : Memory.wholeWindow s.win = some F) :
    exec (.rdreg r) s = .next (s.respond (q.response F)) := by
  show execRdreg r s = _
  simp only [execRdreg, h, requireRecord_eq_none.2 hs, guarded_none, withFrame_of_whole hF]

/-- The frame checks of the three frame reads pass when the frame is defined and the operand accepted. -/
theorem frameCheck_none {s : State} {c : Bool} (hs : s.frameDefined = true) (hc : c = true) :
    (requireFrame s).andThen (requireOperand c) = none :=
  andThen_eq_none.2 ⟨requireFrame_eq_none.2 hs, requireOperand_eq_none.2 hc⟩

/-- The byte at an address of a whole window is the frame's byte. -/
theorem read_of_whole {m : Memory} {F : Frame} (h : Memory.wholeWindow m = some F) {a : Nat} (ha : a < 302) :
    Memory.read m a = some (F.byte a) := by
  obtain ⟨hl, hr⟩ := Memory.wholeWindow_some h
  rw [hr a ha, Frame.byte]
  simp [hl, ha]

/-- An address above every listed one holds no value. -/
theorem Memory.read_of_wf {m : Memory} (h : Memory.wf m) {a : Nat} (ha : 302 ≤ a) : Memory.read m a = none := by
  have hb := h.2
  clear h
  induction m with
  | nil => rfl
  | cons c m ih =>
    rw [Memory.read_cons, ih (fun d hd => hb d (List.mem_cons_of_mem _ hd)), if_neg]
    have : c.1 < 302 := hb c List.mem_cons_self
    omega

/-- A whole window in canonical form holds a value at exactly the 302 addresses. -/
theorem windowFilled_of_whole {m : Memory} {F : Frame} (hw : Memory.wf m) (h : Memory.wholeWindow m = some F) {n : Nat}
    (hn : 302 ≤ n) : windowFilled m n := by
  intro a
  by_cases ha : a < 302
  · simp [read_of_whole h ha, ha, hn]
  · simp [Memory.read_of_wf hw (Nat.le_of_not_lt ha), ha]

end Sys2Proof.Machine
end

