-- ==== Sys2Proof/Laws/PerInstr.lean ====
section
/-! SUPPORT. Facts about every command as syntax, one lemma per constructor. -/

namespace Sys2Proof.Laws.EncodingFields

/-- The word of a command has its opcode in [31:24] and its operand field in [23:0] (30_encoding.md R100). -/
def Statement (i : Instr) : Prop := opcodeOf (encode i) = i.opcode ∧ (encode i).extractLsb' 0 24 = i.operandField

/-- The bits of an opcode and an operand field put together. -/
theorem getLsbD_word (opc : Opcode) (f : BitVec 24) (k : Nat) :
    BitVec.getLsbD (w := 32) (opc ++ f) k = if k < 24 then f.getLsbD k else opc.getLsbD (k - 24) :=
  BitVec.getLsbD_append

theorem split_word (opc : Opcode) (f : BitVec 24) :
    opcodeOf (opc ++ f) = opc ∧ BitVec.extractLsb' (n := 32) 0 24 (opc ++ f) = f := by
  constructor
  · apply BitVec.eq_of_getLsbD_eq
    intro i hi
    rw [opcodeOf, BitVec.getLsbD_extractLsb', getLsbD_word]
    simp [hi]
  · apply BitVec.eq_of_getLsbD_eq
    intro i hi
    rw [BitVec.getLsbD_extractLsb', Nat.zero_add, getLsbD_word]
    simp [hi]

theorem nop : Statement .nop := split_word _ _
theorem reset : Statement .reset := split_word _ _
theorem beginBuffer : Statement .beginBuffer := split_word _ _
theorem push (b : Byte) : Statement (.push b) := split_word _ _
theorem endBuffer : Statement .endBuffer := split_word _ _
theorem rdreg (r : RegNumber) : Statement (.rdreg r) := split_word _ _
theorem rdfrm (off : FrameOffset) : Statement (.rdfrm off) := split_word _ _
theorem extle (start : BitVec 8) (width : BitVec 6) : Statement (.extle start width) := split_word _ _
theorem rdbe (off : FrameOffset) (n : Nat) : Statement (.rdbe off n) := split_word _ _

end Sys2Proof.Laws.EncodingFields
end

