-- ==== Sys2Proof/Machine/Timing.lean ====
section
/-! DEFINITION. The clock cycles of command words, in terms of the open parameter `LAT` (00_scope.md R10; 70_reset_and_hazards.md
R359, R360). No step of the machine reads them: "no rule of this spec and no result depends on `LAT`". -/

namespace Sys2Proof.Machine

/-- The clock cycles FDEC spends executing a sequence of command words: the plain sum of `LAT`, since the port serialises them
(R355, R359). DESIGN CHOICE (log entry 11): the spec gives `LAT` per command and no time for a sequence; the cycles between one
command's completion and the acceptance of the next (the host's gap, the host taking a response, R356) are not counted, so this
is no elapsed time but a lower bound of it. -/
def cyclesOf (ws : List CommandWord) : Nat := (ws.map Config.lat).sum

/-- The command words waiting on the port that will be executed to completion; the word a hardware reset abandons is not among
them (log entry 11). -/
def PortEvent.words : List PortEvent → List CommandWord
  | [] => []
  | .command w :: es => w :: PortEvent.words es
  | .hardReset _ :: es => PortEvent.words es

end Sys2Proof.Machine
end

