-- ==== Sys2Proof/Tests/Slice0.lean ====
section
/-! SUPPORT. Tests whose expected results stand in spec/95_test_vectors.md, and for each statement with hypotheses a concrete
input that meets them (a witness). -/

namespace Sys2Proof.Tests

-- The kernel evaluates the tests one at a time, so that checking them needs few threads.
set_option Elab.async false

open Sys2Proof Sys2Proof.Machine

/-! ## Helpers: the frames of 95_test_vectors.md and small states built from them -/

/-- `ZA`: 300 bytes 0x00, then `58 58`. -/
@[irreducible] def za : Frame := List.replicate 300 0#8 ++ [0x58#8, 0x58#8]

/-- A frame with bytes placed at an address. -/
def place (F : Frame) (e : Nat × List Byte) : Frame := F.take e.1 ++ e.2 ++ F.drop (e.1 + e.2.length)

/-- A frame with several such edits. -/
def edited (F : Frame) (es : List (Nat × List Byte)) : Frame := es.foldl place F

/-- `ZB`: sync `58 A0`. -/
@[irreducible] def zb : Frame := edited za [(301, [0xA0#8])]

/-- `ZC1` and `ZC2`: two byte ordering flags. -/
@[irreducible] def zc1 : Frame := edited za [(0, [0xFF#8, 0xFF#8, 0xFF#8, 0xFF#8])]
@[irreducible] def zc2 : Frame := edited za [(0, [0x12#8, 0x34#8, 0x56#8, 0x78#8])]

/-- `ZD`: ePosition magnitude 1 and eSign 1. -/
@[irreducible] def zd : Frame := edited za [(279, [0x10#8]), (282, [0x80#8])]

/-- `FS` (L2.6). -/
@[irreducible] def fs : Frame := edited za (
  ([ (0, [0xFF#8, 0xFF#8, 0xFF#8, 0xFF#8, 0x00#8, 0x00#8, 0x00#8, 0x03#8, 0x00#8, 0x00#8, 0x01#8, 0x2E#8, 0x00#8, 0x00#8,
    0x00#8, 0x01#8]), (16, [0x41#8, 0x4C#8, 0x50#8, 0x48#8, 0x41#8]), (32, [0x53#8, 0x59#8, 0x53#8, 0x00#8,
    0x58#8]) ] : List (Nat × List Byte)) ++
  ([ (64, [0x00#8, 0x00#8, 0x00#8, 0x01#8]), (100, [0xCA#8, 0xFE#8, 0xBA#8, 0xBE#8]), (112, [0x00#8, 0x00#8, 0x00#8, 0x05#8,
    0x00#8, 0x00#8, 0x07#8, 0xE8#8, 0x00#8, 0x00#8, 0x01#8, 0x6E#8, 0x00#8, 0x01#8, 0x51#8, 0x7F#8, 0x00#8, 0x0F#8, 0x42#8,
    0x3F#8]) ] : List (Nat × List Byte)) ++
  ([ (132, [0x3F#8, 0xF0#8, 0x00#8, 0x00#8, 0x00#8, 0x00#8, 0x00#8, 0x00#8, 0x80#8, 0x00#8, 0x00#8, 0x00#8, 0x00#8, 0x00#8,
    0x00#8, 0x00#8, 0x7F#8, 0xF8#8, 0x00#8, 0x00#8, 0x00#8, 0x00#8, 0x00#8, 0x01#8]), (156, [0x40#8, 0x59#8, 0x00#8, 0x00#8,
    0x00#8, 0x00#8, 0x00#8, 0x00#8, 0x01#8, 0x02#8, 0x03#8, 0x04#8, 0x05#8, 0x06#8, 0x07#8, 0x08#8, 0xFF#8, 0xFF#8, 0xFF#8,
    0xFF#8, 0xFF#8, 0xFF#8, 0xFF#8, 0xFF#8]), (180, [0x00#8, 0x00#8, 0x00#8, 0x2A#8, 0x47#8]) ] : List (Nat × List Byte)) ++
  ([ (208, [0x47#8, 0x52#8, 0x50#8]), (224, [0x00#8, 0x00#8, 0x00#8, 0x02#8, 0x00#8, 0x00#8, 0x00#8, 0x07#8, 0x00#8, 0x00#8,
    0x00#8, 0x01#8, 0xFF#8, 0xFF#8, 0xFF#8, 0xFE#8, 0x00#8, 0x00#8, 0x00#8, 0x01#8, 0x80#8, 0x00#8, 0x00#8, 0x00#8, 0xDE#8,
    0xAD#8, 0xBE#8, 0xEF#8]), (252, [0x00#8, 0x00#8, 0x07#8, 0xCF#8, 0x00#8, 0x00#8, 0x00#8, 0x01#8, 0x00#8, 0x00#8, 0x00#8,
    0x00#8, 0x00#8, 0x00#8, 0x00#8, 0x01#8, 0x99#8]) ] : List (Nat × List Byte)) ++
  [(68, List.replicate 32 0x20#8)])

/-- `FL` (L2.7). -/
@[irreducible] def fl : Frame := edited za [(272,
  [0xBC#8, 0x3A#8, 0x59#8, 0xD6#8, 0xFD#8, 0x45#8, 0xAD#8, 0x0A#8, 0x00#8, 0x00#8, 0xC0#8, 0x03#8, 0x89#8, 0x07#8, 0x40#8,
    0xFF#8, 0xFF#8, 0xFF#8, 0x5F#8, 0x00#8, 0x90#8, 0x46#8, 0x92#8, 0xA5#8, 0x04#8, 0x00#8, 0x57#8, 0x01#8, 0x58#8, 0x58#8])]

/-- `FL1`: an all-ones LTAS section. -/
@[irreducible] def fl1 : Frame := edited za [(272, List.replicate 28 0xFF#8)]

/-- `FAN` (L2.8): a frame raising all nine anomalies. -/
@[irreducible] def fan : Frame := edited za [(0, [0xFF#8, 0xFF#8, 0xFF#8, 0x00#8, 0#8, 0#8, 0#8, 4#8]), (67, [2#8]), (115,
  [2#8]), (227, [3#8]), (231, [5#8]),
  (243, [2#8]), (286, [0x80#8]), (296, [0x07#8])]

/-- `ZA` ending `12 34`, which is no sync. -/
@[irreducible] def z1234 : Frame := edited za [(300, [0x12#8, 0x34#8])]

/-- Bytes at the top of the window. -/
@[irreducible] def cells (bs : List Byte) : Memory := List.zip (List.range' (302 - bs.length) bs.length) bs

/-- A frame laid into the window is the whole window. -/
theorem readBlock_zip (bs : List Byte) (k : Nat) :
    Memory.readBlock (List.zip (List.range' k bs.length) bs) k bs.length = some bs := by
  induction bs generalizing k with
  | nil => rfl
  | cons b bs ih => simp [List.range'_succ, Memory.readBlock, ih]

theorem whole_cells {F : Frame} (h : F.length = 302) : Memory.wholeWindow (cells F) = some F := by
  have := readBlock_zip F 0
  rw [h] at this
  rw [cells, h]
  exact this

/-- Bytes laid into the window are in the canonical form. -/
theorem wf_cells {bs : List Byte} (h : bs.length ≤ 302) : Memory.wf (cells bs) := by
  have hm : (cells bs).map Prod.fst = List.range' (302 - bs.length) bs.length := by
    rw [cells, List.map_fst_zip (by simp)]
  constructor
  · have := List.pairwise_lt_range' (s := 302 - bs.length) (n := bs.length)
    rw [← hm] at this
    exact List.pairwise_map.1 this
  · intro c hc
    have : c.1 ∈ (cells bs).map Prod.fst := List.mem_map_of_mem hc
    rw [hm, List.mem_range'_1] at this
    show c.1 < 302
    omega

/-- FILL with the bytes pushed. -/
def filled (bs : List Byte) : State := { State.reset with state := .fill, win := cells bs, cnt := BitVec.ofNat 32 bs.length }

/-- OK with the record of a frame: V-A's end state for `za`. -/
def okState (F : Frame) (sync : BitVec 16) (anom : BitVec 9) : State :=
  { State.reset with state := .ok, win := cells F, cnt := 302#32, sync := sync, anom := anom }

def va : State := okState za 0x5858#16 0#9

/-- After `BadSync` on `z1234`. -/
def badSyncState : State :=
  { State.reset with state := .err, errCode := .badSync, win := cells z1234, cnt := 302#32, sync := 0x1234#16 }

/-- After `TooShort` on three bytes 0x00. -/
def shortState : State :=
  { State.reset with state := .err, errCode := .tooShort, win := cells [0#8, 0#8, 0#8], cnt := 3#32 }

/-- A state with a word at the head of the port. -/
def withWord (s : State) (w : CommandWord) : State := { s with port := [.command w] }

/-- A state with events waiting on the port. -/
def withPort (s : State) (es : List PortEvent) : State := { s with port := es }

/-- The outcome is a next state with the property. -/
def nextIs (o : StepOutcome) (p : State → Bool) : Bool :=
  match o with
  | .next s => p s
  | .fault _ => false
  | .refused _ => false

/-- Every field but the window, which the frame statements cover, is the same. -/
def sameFields (t u : State) : Bool :=
  t.state == u.state && t.cnt == u.cnt && t.errCode == u.errCode && t.sync == u.sync && t.anom == u.anom &&
  t.cmdErr == u.cmdErr && t.resps == u.resps

/-- A read in the state answers the response and changes nothing else. -/
def answers (s : State) (w : CommandWord) (v : Response) : Bool :=
  nextIs (runWord w s) (fun t => sameFields t { s with resps := s.resps ++ [v] })

/-- A word is a command error with the response of a read. -/
def errsRead (s : State) (w : CommandWord) : Bool :=
  nextIs (runWord w s) (fun t => sameFields t { s with cmdErr := true, resps := s.resps ++ [0#64] })

/-- A word is a command error with no response. -/
def errs (s : State) (w : CommandWord) : Bool := nextIs (runWord w s) (fun t => sameFields t { s with cmdErr := true })

/-- Each result register listed has the response listed, on the frame. -/
def registersRead (F : Frame) (rows : List (RegNumber × Response)) : Bool :=
  rows.all (fun e => match registerOf e.1 with
    | some (.result q) => q.response F == e.2
    | some (.status _) => false
    | none => false)

/-! ## WellFormed and decoding -/

/-- The smoke test: the byte counts `NSEL` cannot give are refused (30_encoding.md R107, R113). -/
theorem test_wellFormed_refuses_byte_count :
    (Instr.rdbe 0 3).wellFormed = false ∧ (Instr.rdbe 0 0).wellFormed = false ∧ (Instr.rdbe 0 16).wellFormed = false ∧
    (Instr.rdbe 511 8).wellFormed = true := by decide

/-- One word of every command written from its format: OPC [31:24], then the fields (30_encoding.md R101 to R106). -/
theorem test_decode_nop : decode (0b00000000#8 ++ 0#24) = .ok .nop := by rfl
theorem test_decode_reset : decode (0b00000001#8 ++ 0#24) = .ok .reset := by rfl
theorem test_decode_begin : decode (0b00000010#8 ++ 0#24) = .ok .beginBuffer := by rfl
theorem test_decode_push : decode (0b00000011#8 ++ 0#16 ++ 0b10100101#8) = .ok (.push 0xA5#8) := by rfl
theorem test_decode_end : decode (0b00000100#8 ++ 0#24) = .ok .endBuffer := by rfl
theorem test_decode_rdreg : decode (0b00010000#8 ++ 0#12 ++ 0b100000000001#12) = .ok (.rdreg 0x801#12) := by rfl
theorem test_decode_rdfrm : decode (0b00010001#8 ++ 0#15 ++ 0b100101101#9) = .ok (.rdfrm 301#9) := by rfl
theorem test_decode_extle : decode (0b00010010#8 ++ 0#10 ++ 0b001101#6 ++ 0b10000010#8) = .ok (.extle 130#8 13#6) := by rfl
theorem test_decode_rdbe : decode (0b00010011#8 ++ 0#13 ++ 0b11#2 ++ 0b100100110#9) = .ok (.rdbe 294#9 8) := by rfl

/-- L2.1: the illegal words and why they are illegal. -/
theorem test_decode_illegal :
    [0x05000000#32, 0x0F000000#32, 0x14000000#32, 0xFFFFFFFF#32].all
      (fun w => decode w matches .error .unassignedOpcode) = true ∧
    [0x00000001#32, 0x01800000#32, 0x02000100#32, 0x03000100#32, 0x04000004#32, 0x10001000#32, 0x11000200#32, 0x12004000#32,
      0x13000800#32].all (fun w => decode w matches .error .reservedBitSet) = true := by decide +kernel

/-- L2.1: the assembler's words, from the text of a line (30_encoding.md R113). -/
theorem test_assemble_text :
    parseLine "RDREG LT_SYNCBITS ; sync".toList = some (some (.rdreg 0x088)) ∧
    parseLine "EXTLE 0xE1, 16".toList = some (some (.extle 225 16)) ∧
    assembleLine (.extle 225 16) = some [0x120010E1#32] ∧ assembleLine (.rdbe 294 8) = some [0x13000726#32] ∧
    assembleLine (.push 256) = none ∧ assembleLine (.rdbe 0 3) = none := by decide +kernel

/-- The expansions of 30_encoding.md R114. -/
theorem test_pseudo_instructions :
    assembleLine (.pushBE 0x12E 4) = some [0x03000000#32, 0x03000000#32, 0x03000001#32, 0x0300002E#32] ∧
    assembleLine (.frame [0x58, 0xA0]) = some [0x02000000#32, 0x03000058#32, 0x030000A0#32, 0x04000000#32] := by decide +kernel

/-- The host's two questions, on a table row's bits. -/
theorem test_table_word :
    decodeTableWord 32 0x13000726 = some (.rdbe 294#9 8) ∧ decodeTableWord 32 0x14000000 = none ∧
    nextIs (step (State.reset.withFetchWord 32 0x02000000)) (fun t => t.state == .fill) = true := by decide +kernel

/-! ## One step of each command (L2.2, L2.3, L2.8, L2.9) -/

/-- C5, C21. -/
theorem test_nop : nextIs (runWord 0x00000000#32 (filled [1#8, 2#8])) (fun t => t == filled [1#8, 2#8]) = true ∧
    nextIs (runWord 0x00000000#32 { State.reset with cmdErr := true }) (fun t => t.statusWord == 0x10#64) = true := by
  decide +kernel

/-- C16, C22. -/
theorem test_reset : nextIs (runWord 0x01000000#32 va) (fun t => t == State.reset) = true ∧
    nextIs (runWord 0x01000000#32 { State.reset with cmdErr := true }) (fun t => t == State.reset) = true := by
  decide +kernel

/-- C15, C20. -/
theorem test_begin : nextIs (runWord 0x02000000#32 va) (fun t => t == { State.reset with state := .fill }) = true ∧
    nextIs (runWord 0x02000000#32 { State.reset with cmdErr := true }) (fun t => t.statusWord == 0x11#64) = true := by
  decide +kernel

/-- C6, C7, and the window of 302 bytes and one more (40_control.md R136). -/
theorem test_push :
    nextIs (runWord 0x030000AB#32 (filled [])) (fun t => t == filled [0xAB#8]) = true ∧
    nextIs (runWord 0x03000058#32 (filled (List.replicate 301 0#8)))
      (fun t => sameFields t (filled (List.replicate 301 0#8 ++ [0x58#8]))) = true ∧
    nextIs (runWord 0x03000077#32 (filled ((List.range 302).map (BitVec.ofNat 8))))
      (fun t => t.cnt == 303#32 && Memory.read t.win 0 == some 0x01#8 && Memory.read t.win 301 == some 0x77#8) = true := by
  decide +kernel

/-- C2, C14, C17 and the saturation of `CNT`. -/
theorem test_push_refusals_and_saturation :
    errs State.reset 0x03000000#32 = true ∧ errs va 0x03000000#32 = true ∧ errs shortState 0x03000000#32 = true ∧
    nextIs (runWord 0x03000001#32 { filled [] with cnt := 0xFFFFFFFF#32 })
      (fun t => t.cnt == 0xFFFFFFFF#32 && Memory.read t.win 301 == some 0x01#8) = true := by decide +kernel

/-- C8 to C10, C12, V-B, V-C, E1. -/
theorem test_end :
    nextIs (runWord 0x04000000#32 (filled [])) (fun t => t.statusWord == 0x7#64) = true ∧
    nextIs (runWord 0x04000000#32 (filled (List.replicate 301 0x58#8))) (fun t => t.statusWord == 0x7#64 && t.sync == 0#16) = true ∧
    nextIs (runWord 0x04000000#32 (filled za)) (fun t => sameFields t va) = true ∧
    sameFields (validateAndDecode zb (filled zb)) (okState zb 0x58A0#16 0#9) = true ∧
    sameFields (validateAndDecode zc2 (filled zc2)) (okState zc2 0x5858#16 0x001#9) = true ∧
    sameFields (validateAndDecode z1234 (filled z1234)) badSyncState = true ∧
    (validateAndDecode (edited fan [(300, [0x12#8, 0x34#8])]) (filled fan)).statusWord = 0xB#64 := by decide +kernel

/-- C3, C13, C19, K8. -/
theorem test_end_refusals :
    errs State.reset 0x04000000#32 = true ∧ errs va 0x04000000#32 = true ∧ errs badSyncState 0x04000000#32 = true ∧
    errs (filled []) 0x04000001#32 = true := by decide +kernel

/-- R1, R10, R13 to R16, R41, R42, R45, R46. -/
theorem test_rdreg :
    answers State.reset 0x10000000#32 0#64 = true ∧ answers (filled [1#8, 2#8, 3#8, 4#8, 5#8]) 0x10000001#32 5#64 = true ∧
    answers va 0x10000000#32 2#64 = true ∧ answers va 0x10000001#32 0x12E#64 = true ∧
      answers va 0x10000002#32 0x5858#64 = true ∧
    answers va 0x10000011#32 1#64 = true ∧ answers shortState 0x10000000#32 7#64 = true ∧
    answers shortState 0x10000001#32 3#64 = true ∧ answers badSyncState 0x10000000#32 0xB#64 = true ∧
    answers badSyncState 0x10000002#32 0x1234#64 = true := by decide +kernel

/-- R5, R6, R11, R17 to R19, R44, R50, K1 to K3. -/
theorem test_rdreg_refusals :
    [0x10000011#32, 0x10000004#32, 0x10001004#32, 0x10000010#32].all (errsRead State.reset) = true ∧
    errsRead (filled [0#8]) 0x10000060#32 = true ∧
    [0x10000016#32, 0x10000089#32, 0x10000FFF#32].all (errsRead va) = true ∧
    errsRead shortState 0x10000088#32 = true ∧ errsRead badSyncState 0x10000088#32 = true := by decide +kernel

/-- R21, R47. -/
theorem test_rdfrm : answers va 0x1100012C#32 0x58#64 = true ∧
    answers badSyncState 0x1100012C#32 0x12#64 = true := by decide +kernel

/-- R7, R12, R23, R24, R43, K4, K5. -/
theorem test_rdfrm_refusals : errsRead State.reset 0x11000000#32 = true ∧ errsRead (filled [0#8]) 0x1100012D#32 = true ∧
    errsRead va 0x1100012E#32 = true ∧ errsRead va 0x110001FF#32 = true ∧ errsRead shortState 0x11000000#32 = true ∧
    errsRead badSyncState 0x110001FF#32 = true := by decide +kernel

/-- R30, R49. -/
theorem test_extle : answers va 0x120020D1#32 0x58580000#64 = true ∧
    answers badSyncState 0x120010E1#32 0x3412#64 = true := by decide +kernel

/-- R8, R31 to R35, K6. -/
theorem test_extle_refusals : errsRead State.reset 0x12000101#32 = true ∧
    [0x120002F0#32, 0x12000100#32, 0x12000001#32, 0x12002101#32, 0x120001F1#32, 0x12000000#32].all (errsRead va) = true := by
  decide +kernel

/-- R37, and `RDBE 236, 4` on `FS`, which is not sign-extended. -/
theorem test_rdbe : answers va 0x13000726#32 0x5858#64 = true ∧
    answers (okState fs 0x5858#16 0x028#9) 0x130004EC#32 0xFFFFFFFE#64 = true := by decide +kernel

/-- R9, R38, R40, K7. -/
theorem test_rdbe_refusals : errsRead State.reset 0x13000000#32 = true ∧
    [0x13000727#32, 0x1300032D#32, 0x13000728#32].all (errsRead va) = true := by decide +kernel

/-- L2.1: an illegal word without a read opcode has no response. -/
theorem test_illegal_words : [0x05000000#32, 0xFFFFFFFF#32, 0x00000001#32, 0x03000100#32].all (errs va) = true ∧
    [0x10001000#32, 0x11000200#32, 0x12004000#32, 0x13000800#32].all (errsRead va) = true := by decide +kernel

/-! ## The record (V-A to V-F, L2.4 to L2.8) -/

/-- V-A: the registers that are not 0, and that there are no others. -/
theorem test_va_registers : registersRead za (
    ([ (0x011#12, 0x1#64), (0x06B#12, 0x1#64), (0x071#12, 0x1#64), (0x080#12, 0xA#64), (0x088#12,
      0x5858#64) ] : List (RegNumber × Response))) = true ∧
    (ResultReg.all.filter (fun q => q.response za != 0#64)).length = 5 ∧ ResultReg.all.length = 83 := by decide +kernel

/-- V-B, V-C, V-D, V-F. -/
theorem test_scenarios : registersRead zb [(0x088#12, 0xA058#64)] = true ∧ registersRead zc1 [(0x011#12, 0#64)] = true ∧
    registersRead zc2 [(0x010#12, 0x12345678#64), (0x011#12, 2#64)] = true ∧
    registersRead zd [(0x067#12, 1#64), (0x068#12, 1#64), (0x069#12, 0xFFFFFFFFF8000001#64)] = true ∧
    registersRead (edited za [(283, [2#8])]) [(0x06A#12, 2#64), (0x06B#12, 10000#64)] = true := by decide +kernel

/-- The reference table of V-D. -/
theorem test_correction : corr 27 0 1 = -134217728 ∧ corr 27 0x4000000 1 = -67108864 ∧ corr 27 0x7FFFFFF 1 = -1 ∧
    corr 27 0x1E240 1 = -134094272 ∧ corr 27 0x1E240 0 = 123456 ∧ corr 14 1 1 = -16383 ∧ corr 14 0x1234 1 = -11724 ∧
    corr 14 0x3FFF 1 = -1 := by decide +kernel

/-- L2.5: trimmed lengths. -/
theorem test_trimmed_length : (edited za [(16, [0x41#8, 0x42#8, 0#8, 0x43#8])]).tlen 16 16 = 4 ∧ za.tlen 16 16 = 0 ∧
    (edited za [(31, [1#8])]).tlen 16 16 = 16 := by decide +kernel

/-- L2.6: the registers of `FS`, and its anomalies. -/
theorem test_fs_registers : fs.anomalies = 0x028#9 ∧ fs.length = 302 ∧ registersRead fs (
  ([ (0x010#12, 0xFFFFFFFF#64), (0x011#12, 0x0#64), (0x012#12, 0x3#64), (0x013#12, 0x3#64), (0x014#12, 0x12E#64), (0x015#12,
    0x1#64), (0x020#12, 0x5#64), (0x021#12, 0x5#64) ] : List (RegNumber × Response)) ++
  ([ (0x022#12, 0x0#64), (0x023#12, 0x1#64), (0x024#12, 0x1#64), (0x025#12, 0x20#64), (0x026#12, 0xCAFEBABE#64), (0x030#12,
    0x5#64), (0x031#12, 0x2#64), (0x032#12, 0x7E8#64) ] : List (RegNumber × Response)) ++
  ([ (0x033#12, 0x16E#64), (0x034#12, 0x1517F#64), (0x035#12, 0xF423F#64), (0x036#12, 0x3FF0000000000000#64), (0x037#12,
    0x8000000000000000#64), (0x038#12, 0x7FF8000000000001#64), (0x039#12, 0x4059000000000000#64), (0x03A#12,
    0x102030405060708#64) ] : List (RegNumber × Response)) ++
  ([ (0x03B#12, 0xFFFFFFFFFFFFFFFF#64), (0x03C#12, 0x2A#64), (0x03D#12, 0x47#64), (0x040#12, 0x3#64), (0x041#12, 0x2#64),
    (0x042#12, 0x2#64), (0x043#12, 0x7#64), (0x044#12, 0x5#64) ] : List (RegNumber × Response)) ++
  ([ (0x045#12, 0x1#64), (0x046#12, 0xFFFFFFFFFFFFFFFE#64), (0x047#12, 0x1#64), (0x048#12, 0x1#64), (0x049#12,
    0xFFFFFFFF80000000#64), (0x04A#12, 0xDEADBEEF#64), (0x050#12, 0x7CF#64), (0x051#12,
    0x1#64) ] : List (RegNumber × Response)) ++
  ([ (0x052#12, 0x0#64), (0x053#12, 0x1#64) ] : List (RegNumber × Response))) = true := by
  decide +kernel

/-- L2.7: the registers of `FL`. -/
theorem test_fl_registers : fl.anomalies = 0#9 ∧ fl.length = 302 ∧ registersRead fl (
  ([ (0x060#12, 0x1ABC#64), (0x061#12, 0x9#64), (0x062#12, 0x12C#64), (0x063#12, 0x5#64), (0x064#12, 0x7#64), (0x065#12,
    0x1517F#64), (0x066#12, 0x155#64), (0x067#12, 0x4000000#64) ] : List (RegNumber × Response)) ++
  ([ (0x068#12, 0x1#64), (0x069#12, 0xFFFFFFFFFC000000#64), (0x06A#12, 0x3#64), (0x06B#12, 0x174876E800#64), (0x06C#12,
    0x1E240#64), (0x06D#12, 0x0#64), (0x06E#12, 0x1E240#64), (0x06F#12, 0x1#64) ] : List (RegNumber × Response)) ++
  ([ (0x070#12, 0x1#64), (0x071#12, 0xA#64), (0x072#12, 0x7FFFFFF#64), (0x073#12, 0x1#64), (0x074#12, 0xFFFFFFFFFFFFFFFF#64),
    (0x075#12, 0x1#64), (0x076#12, 0x0#64), (0x077#12, 0x1#64) ] : List (RegNumber × Response)) ++
  ([ (0x078#12, 0x1#64), (0x079#12, 0xFFFFFFFFFFFFC001#64), (0x07A#12, 0x1234#64), (0x07B#12, 0x0#64), (0x07C#12, 0x1234#64),
    (0x07D#12, 0x1#64), (0x07E#12, 0x0#64), (0x07F#12, 0x2#64) ] : List (RegNumber × Response)) ++
  ([ (0x080#12, 0x32#64), (0x081#12, 0xA5#64), (0x082#12, 0x4#64), (0x083#12, 0x2000#64), (0x084#12, 0x1#64), (0x085#12,
    0xFFFFFFFFFFFFE000#64), (0x086#12, 0x55#64), (0x087#12, 0x0#64) ] : List (RegNumber × Response)) ++
  ([ (0x088#12, 0x5858#64) ] : List (RegNumber × Response))) = true := by
  decide +kernel

/-- L2.7: the registers of `FL1`; L2.8: the registers of `FAN`. -/
theorem test_extreme_frames : fl1.anomalies = 0x180#9 ∧ fan.anomalies = 0x1FF#9 ∧ fl1.length = 302 ∧ fan.length = 302 ∧
  registersRead fl1 (
  ([ (0x060#12, 0x1FFF#64), (0x065#12, 0x1FFFF#64), (0x067#12, 0x7FFFFFF#64), (0x069#12, 0xFFFFFFFFFFFFFFFF#64), (0x06B#12,
    0x174876E800#64), (0x06F#12, 0x3#64), (0x070#12, 0x2#64), (0x071#12, 0x0#64) ] : List (RegNumber × Response)) ++
  ([ (0x074#12, 0xFFFFFFFFFFFFFFFF#64), (0x079#12, 0xFFFFFFFFFFFFFFFF#64), (0x07C#12, 0xFFFFFFFFFFFFFFFF#64), (0x080#12,
    0x64#64), (0x081#12, 0xFF#64), (0x082#12, 0x7#64), (0x085#12, 0xFFFFFFFFFFFFFFFF#64), (0x086#12,
    0x7F#64) ] : List (RegNumber × Response)) ++
  ([ (0x087#12, 0x7F#64), (0x088#12, 0x5858#64) ] : List (RegNumber × Response))) = true ∧
  registersRead fan (
  ([ (0x011#12, 0x2#64), (0x013#12, 0x4#64), (0x024#12, 0x2#64), (0x031#12, 0x2#64), (0x042#12, 0x3#64), (0x044#12, 0x5#64),
    (0x048#12, 0x2#64), (0x070#12, 0x2#64) ] : List (RegNumber × Response)) ++
  ([ (0x082#12, 0x7#64) ] : List (RegNumber × Response))) = true := by
  decide +kernel

/-! ## Witnesses -/

/-- Each `witness_<statement>` shows inputs that meet the hypotheses of the statement, one part for each of its clauses. -/
theorem witness_DecodeOfEncodeIsTheCommand : [1, 2, 4, 8].all (fun n => (Instr.rdbe 511#9 n).wellFormed) = true ∧
    (Instr.extle 255#8 63#6).wellFormed = true := by decide

theorem witness_EncodeOfDecodeIsTheWord : decode 0x130007FF#32 = .ok (.rdbe 511#9 8) ∧
  decode 0x03000000#32 = .ok (.push 0#8) := by
  constructor <;> rfl

theorem witness_OpcodeRowsSelectDisjointWords :
    ∃ r₁ ∈ opcodeTable, ∃ r₂ ∈ opcodeTable, r₁.selects 0x030000FF#32 = true ∧ r₂.selects 0x030000FF#32 = true := by
  decide +kernel

theorem witness_IllegalWordsOnlyRaiseCommandErrors :
    ((withWord va 0x10001000#32).port = .command 0x10001000#32 :: [] ∧ ¬ legalWord 0x10001000#32 ∧
      readOpcode (opcodeOf 0x10001000#32)) ∧
    ((withWord va 0x13000800#32).port = .command 0x13000800#32 :: [] ∧ ¬ legalWord 0x13000800#32 ∧
      readOpcode (opcodeOf 0x13000800#32)) ∧
    ((withWord va 0x14000000#32).port = .command 0x14000000#32 :: [] ∧ ¬ legalWord 0x14000000#32 ∧
      ¬ readOpcode (opcodeOf 0x14000000#32)) ∧
    ((withWord va 0x0F000000#32).port = .command 0x0F000000#32 :: [] ∧ ¬ legalWord 0x0F000000#32 ∧
      ¬ readOpcode (opcodeOf 0x0F000000#32)) := by
  unfold legalWord readOpcode
  refine ⟨⟨rfl, ?_⟩, ⟨rfl, ?_⟩, ⟨rfl, ?_⟩, ⟨rfl, ?_⟩⟩ <;> decide +kernel

theorem witness_AssemblerEmitsTheWordOfALine : (255 ≤ 255 ∧ ¬ 256 ≤ 255) ∧ (0xFFF ≤ 0xFFF) ∧ (511 ≤ 511) ∧ (255 ≤ 255 ∧
  63 ≤ 63) := by decide

theorem witness_PseudoInstructionsExpandAsGiven : (255 ≤ 255) ∧ (∀ b ∈ [0, 255], b ≤ 255) := by decide

theorem witness_ResetStateHoldsTheResetValues : (0 < 4) ∧ (3 < 4) := by decide

theorem witness_ResetCommandClearsEveryElement : opcodeOf 0x01800000#32 = 0x01#8 ∧ 0x01800000#32 ≠ 0x01000000#32 ∧
    opcodeOf 0x01000001#32 = 0x01#8 ∧ 0x01000001#32 ≠ 0x01000000#32 := by decide

theorem witness_ResetCommandClearsEveryElement_flag :
    exec .reset { State.reset with cmdErr := true } = .next State.reset ∧ { State.reset with cmdErr := true }.cmdErr = true ∧
    State.reset.cmdErr = false := ⟨rfl, rfl, rfl⟩

theorem witness_HardwareResetHasTheEffectOfReset :
    (withPort va ([.hardReset none])).port = .hardReset none :: [] ∧
    (withPort va ([.hardReset (some 0x04000000#32)])).port = .hardReset (some 0x04000000#32) :: [] := ⟨rfl, rfl⟩

theorem witness_ResetKeepsThePortAndTheResponses :
    (withPort va ([.hardReset none, .command 0#32])).port = .hardReset none :: [PortEvent.command 0#32] := rfl

theorem witness_StepRunsTheDecodedCommand :
    (withWord va 0x1100012D#32).port = .command 0x1100012D#32 :: [] ∧ decode 0x1100012D#32 = .ok (.rdfrm 301#9) := ⟨rfl, rfl⟩

theorem witness_WaitingKeepsAllState : va.port = [] := rfl

theorem witness_NopHasNoEffect : opcodeOf 0x00000001#32 = 0x00#8 ∧ 0x00000001#32 ≠ 0x00000000#32 ∧
    opcodeOf 0x00FFFFFF#32 = 0x00#8 ∧ 0x00FFFFFF#32 ≠ 0x00000000#32 := by decide

theorem witness_BeginOpensAnEmptyBuffer : opcodeOf 0x02000100#32 = 0x02#8 ∧ 0x02000100#32 ≠ 0x02000000#32 := by decide

theorem witness_PushShiftsTheByteIn :
    ((filled [1#8]).state = .fill ∧ (filled [1#8]).cnt ≠ 0xFFFFFFFF#32 ∧ 300 < 301 ∧ Memory.wf (filled [1#8]).win) ∧
    ({ filled [] with cnt := 0xFFFFFFFF#32 }.state = .fill ∧ { filled [] with cnt := 0xFFFFFFFF#32 }.cnt = 0xFFFFFFFF#32) ∧
    ({ filled [] with cnt := 0xFFFFFFFE#32 }.state = .fill ∧ { filled [] with cnt := 0xFFFFFFFE#32 }.cnt ≠ 0xFFFFFFFF#32) ∧
    va.state ≠ .fill ∧
    (opcodeOf 0x03000100#32 = 0x03#8 ∧ BitVec.extractLsb' 8 16 0x03000100#32 ≠ 0#16) ∧
    (opcodeOf 0x03800000#32 = 0x03#8 ∧ BitVec.extractLsb' 8 16 0x03800000#32 ≠ 0#16) := by decide +kernel

theorem witness_EndReportsExactlyOneOutcome_short :
    (filled (List.replicate 301 0#8)).state = .fill ∧ (filled (List.replicate 301 0#8)).cnt.toNat < 302 := by decide +kernel

theorem witness_EndReportsExactlyOneOutcome_sync :
    ((filled za).state = .fill ∧ 302 ≤ (filled za).cnt.toNat ∧ Memory.wholeWindow (filled za).win = some za ∧
      256 * (za.byte 300).toNat + (za.byte 301).toNat = 0x5858) ∧
    ((filled zb).state = .fill ∧ 302 ≤ (filled zb).cnt.toNat ∧ Memory.wholeWindow (filled zb).win = some zb ∧
      256 * (zb.byte 300).toNat + (zb.byte 301).toNat = 0x58A0) ∧
    ((filled z1234).state = .fill ∧ 302 ≤ (filled z1234).cnt.toNat ∧ Memory.wholeWindow (filled z1234).win = some z1234 ∧
      256 * (z1234.byte 300).toNat + (z1234.byte 301).toNat = 0x1234) :=
  ⟨⟨rfl, by decide +kernel, whole_cells (by decide +kernel), by decide +kernel⟩,
   ⟨rfl, by decide +kernel, whole_cells (by decide +kernel), by decide +kernel⟩,
   ⟨rfl, by decide +kernel, whole_cells (by decide +kernel), by decide +kernel⟩⟩

theorem witness_EndReportsExactlyOneOutcome_refused : va.state ≠ .fill ∧ shortState.state ≠ .fill ∧
    opcodeOf 0x04000004#32 = 0x04#8 ∧ 0x04000004#32 ≠ 0x04000000#32 := by decide

theorem witness_FatalErrorsLeaveNoRecord :
    (filled []).state = .fill ∧ exec .endBuffer (filled []) = .next (failTooShort (filled [])) ∧
    (failTooShort (filled [])).state = .err ∧ registerOf 0x010#12 = some (.result .fhBorderRaw) ∧
    registerOf 0x088#12 = some (.result .ltSyncBits) :=
  ⟨rfl, exec_end_of_short rfl (by decide), rfl, by decide +kernel, by decide +kernel⟩

theorem witness_FatalErrorsLeaveNoRecord_badSync :
    (filled z1234).state = .fill ∧ exec .endBuffer (filled z1234) = .next (validateAndDecode z1234 (filled z1234)) ∧
    (validateAndDecode z1234 (filled z1234)).state = .err :=
  ⟨rfl, exec_end_of_whole rfl (by decide +kernel) (whole_cells (by decide +kernel)), by decide +kernel⟩

theorem witness_WindowHoldsTheTrailingBytes :
    (withPort va (fillEvents [] ++ [PortEvent.command 0#32])).port = fillEvents [] ++ [PortEvent.command 0#32] ∧
    (withPort va (fillEvents (0xAA#8 :: za) ++ [])).port = fillEvents (0xAA#8 :: za) ++ [] ∧ 0 < 302 ∧ 301 < 302 :=
  ⟨rfl, rfl, by decide, by decide⟩

theorem witness_CountIsTheNumberOfPushesSaturated :
    (withPort State.reset (fillEvents [7#8] ++ [])).port = fillEvents [7#8] ++ [] := rfl

theorem witness_PrefixNeverChangesTheRecord :
    za.length = 302 ∧ (withPort va (decodeEvents ([0x58#8, 0x58#8, 0xFF#8] ++ za) ++ [])).port =
      decodeEvents ([0x58#8, 0x58#8, 0xFF#8] ++ za) ++ [] ∧
    (withPort State.reset (decodeEvents za ++ [])).port = decodeEvents za ++ [] := ⟨by decide +kernel, rfl, rfl⟩

theorem witness_SameBytesGiveTheSameRecord :
    (withPort va (decodeEvents fl ++ [])).port = decodeEvents fl ++ [] ∧
    (withPort badSyncState (decodeEvents fl ++ [PortEvent.command 0#32])).port = decodeEvents fl ++
      [PortEvent.command 0#32] := ⟨rfl, rfl⟩

theorem witness_UnassignedNumbersAreCommandErrors :
    [0x004, 0x00F, 0x016, 0x01F, 0x027, 0x02F, 0x03E, 0x03F, 0x04B, 0x04F, 0x054, 0x05F, 0x089, 0xFFF].all
      (fun n => (registerOf (BitVec.ofNat 12 n)).isNone) = true ∧
    unassignedNumber (0x004#12).toNat ∧ unassignedNumber (0x089#12).toNat ∧ unassignedNumber (0xFFF#12).toNat := by
  unfold unassignedNumber
  decide +kernel

/-- The premises of a read with a record. -/
theorem witness_record : va.state = .ok ∧ Memory.wholeWindow va.win = some za := ⟨rfl, whole_cells (by decide +kernel)⟩

/-- The premises of a read of the normalised frame after `BadSync`. -/
theorem witness_rejected_frame : (badSyncState.state = .ok ∨ (badSyncState.state = .err ∧ badSyncState.errCode = .badSync)) ∧
    Memory.wholeWindow badSyncState.win = some z1234 := ⟨.inr ⟨rfl, rfl⟩, whole_cells (by decide +kernel)⟩

theorem witness_RegisterReadChecksNumberThenState :
    registerOf 0x004#12 = none ∧ registerOf 0x003#12 = some (.status .anomaly) ∧
    (registerOf 0x010#12 = some (.result .fhBorderRaw) ∧ shortState.state ≠ .ok) ∧
    (registerOf 0x088#12 = some (.result .ltSyncBits) ∧ va.state = .ok) ∧
    (opcodeOf 0x10001000#32 = 0x10#8 ∧ BitVec.extractLsb' 12 12 0x10001000#32 ≠ 0#12) := by decide +kernel

theorem witness_FrameByteReadback :
    ((va.state = .ok ∨ (va.state = .err ∧ va.errCode = .badSync)) ∧ (301#9).toNat ≤ 301 ∧ (0#9).toNat ≤ 301) ∧
    301 < (302#9).toNat ∧ ¬ (shortState.state = .ok ∨ (shortState.state = .err ∧ shortState.errCode = .badSync)) ∧
    (opcodeOf 0x11000200#32 = 0x11#8 ∧ BitVec.extractLsb' 9 15 0x11000200#32 ≠ 0#15) := by decide

theorem witness_BitFieldReadback :
    ((1 ≤ (1#8).toNat ∧ 1 ≤ (1#6).toNat ∧ (1#6).toNat ≤ 32 ∧ (1#8).toNat + (1#6).toNat - 1 ≤ 240) ∧
     (1 ≤ (209#8).toNat ∧ 1 ≤ (32#6).toNat ∧ (32#6).toNat ≤ 32 ∧ (209#8).toNat + (32#6).toNat - 1 ≤ 240)) ∧
    (0#8).toNat < 1 ∧ (0#6).toNat < 1 ∧ 32 < (33#6).toNat ∧ 240 < (240#8).toNat + (2#6).toNat - 1 ∧
    ¬ (shortState.state = .ok ∨ (shortState.state = .err ∧ shortState.errCode = .badSync)) ∧
    (opcodeOf 0x12004000#32 = 0x12#8 ∧ BitVec.extractLsb' 14 10 0x12004000#32 ≠ 0#10) := by decide

theorem witness_BigEndianReadback :
    (294#9).toNat + 2 ^ (3#2).toNat ≤ 302 ∧ (301#9).toNat + 2 ^ (0#2).toNat ≤ 302 ∧ 302 < (295#9).toNat + 2 ^ (3#2).toNat ∧
    ¬ (shortState.state = .ok ∨ (shortState.state = .err ∧ shortState.errCode = .badSync)) ∧
    (opcodeOf 0x13000800#32 = 0x13#8 ∧ BitVec.extractLsb' 11 13 0x13000800#32 ≠ 0#13) := by decide

theorem witness_ReadbackChangesNoState :
    (isReadback (.rdreg 0x000#12) = true ∧ commandErrorCause (.rdreg 0x000#12) va = none ∧
      exec (.rdreg 0x000#12) va = .next (va.respond 2#64)) ∧
    (isReadback (.rdfrm 511#9) = true ∧ commandErrorCause (.rdfrm 511#9) va ≠ none ∧
      exec (.rdfrm 511#9) va = .next (raiseCmdError .badOperand opcRdfrm va)) :=
  ⟨⟨rfl, by decide +kernel, rfl⟩, ⟨rfl, by decide +kernel, rfl⟩⟩

theorem witness_ReadbackCommandsAgree : va.state = .ok ∧ (Memory.wholeWindow va.win).isSome = true ∧
    (0x010#12, 0, 4) ∈ bigEndianRegisters ∧ (0x088#12, 225, 240) ∈ bitFieldRegisters := by
  refine ⟨rfl, ?_, by decide, by decide⟩
  rw [witness_record.2]; rfl

theorem witness_FrameReadsAreTheirDefiningSums : (1 ≤ 8 ∧ 294 + 8 ≤ 302) ∧ (1 ≤ 1 ∧ 301 + 1 ≤ 302) ∧ (1 ≤ 240 ∧ 240 ≤ 240) ∧
    (1 ≤ 61 ∧ 61 ≤ 87 ∧ 87 ≤ 240) := by decide

theorem witness_EveryCoveringWindowExtractsTheField :
    1 ≤ 61 ∧ 61 ≤ 87 ∧ 87 ≤ 240 ∧ 87 ≤ 8 * ((61 - 1) / 8 + 4) ∧ (61 - 1) / 8 + 4 ≤ 30 ∧
    1 ≤ 240 ∧ 240 ≤ 240 ∧ 240 ≤ 8 * ((240 - 1) / 8 + 1) ∧ (240 - 1) / 8 + 1 ≤ 30 := by decide

theorem witness_HeaderRegistersReadBigEndian : (va.state = .ok ∧ Memory.wholeWindow va.win = some za) ∧
    (0x03B#12, 172, 8) ∈ bigEndianRegisters ∧ (0x053#12, 264, 4) ∈ bigEndianRegisters := ⟨witness_record, by decide, by decide⟩

theorem witness_LtasRegistersReadTheirBits : (va.state = .ok ∧ Memory.wholeWindow va.win = some za) ∧
    (0x060#12, 1, 13) ∈ bitFieldRegisters := ⟨witness_record, by decide⟩

theorem witness_CorrectionIsTwosComplement : (0x7FFFFFF < 2 ^ 27 ∧ (1 = 0 ∨ 1 = 1)) ∧ (0 < 2 ^ 14 ∧
  (0 = 0 ∨ 0 = 1)) := by decide

theorem witness_CorrectedRegistersReadSigned : (va.state = .ok ∧ Memory.wholeWindow va.win = some za) ∧
    (0x085#12, 14, 196, 209, 210) ∈ correctedRegisters := ⟨witness_record, by decide⟩

theorem witness_CodeTablesReadTheirEntries : va.state = .ok ∧ Memory.wholeWindow va.win = some za := witness_record

theorem witness_EnumRegistersReadTheirCodes : (va.state = .ok ∧ Memory.wholeWindow va.win = some za) ∧
   
    (0x013#12, 4, 4, 1) ∈ enumRegisters ∧ (0x048#12, 240, 2, 6) ∈ enumRegisters := ⟨witness_record, by decide, by decide⟩

theorem witness_AnomalyBitsAreTheirConditions : (List.range 9).all (fun i => fan.anomalies.getLsbD i) = true := by decide +kernel

theorem witness_TrimmedLengthsStripTrailingZeros : (va.state = .ok ∧ Memory.wholeWindow va.win = some za) ∧
    (0x025#12, 68, 32) ∈ trimmedRegisters ∧ 31 < 32 := ⟨witness_record, by decide, by decide⟩

/-- A change of one byte is seen at no other. -/
theorem byte_set_of_ne (F : Frame) {a i : Nat} (b : Byte) (h : i ≠ a) : Frame.byte (F.set a b) i = F.byte i := by
  simp [Frame.byte, List.getD_eq_getElem?_getD, List.getElem?_set_ne (Ne.symm h)]

theorem witness_ByteOrderFlagSwitchesNoOtherRead : (∀ i, 4 ≤ i → Frame.byte (za.set 3 1#8) i = za.byte i) ∧
    ResultReg.fhExtTypeRaw ≠ .fhBorderRaw ∧ ResultReg.fhExtTypeRaw ≠ .fhBorder :=
  ⟨fun _ h => byte_set_of_ne _ _ (by omega), by decide, by decide⟩

theorem witness_SpareBytesAffectNoResult : ∀ i, ¬ spareByte i → Frame.byte (za.set 271 0x99#8) i = za.byte i := by
  intro i h
  exact byte_set_of_ne _ _ (fun e => h (by unfold spareByte; omega))

/-- `ZA` with every checksum bit set (L2.7, field isolation). -/
@[irreducible] def zaChecksum : Frame := (za.set 298 0xFC#8).set 299 0x01#8

theorem witness_ChecksumIsNeverVerified :
    (filled za).state = .fill ∧ (filled zaChecksum).state = .fill ∧ (filled zaChecksum).cnt = (filled za).cnt ∧
    302 ≤ (filled za).cnt.toNat ∧ Memory.wholeWindow (filled za).win = some za ∧
    Memory.wholeWindow (filled zaChecksum).win = some zaChecksum ∧
    (∀ i, i ≠ 298 → i ≠ 299 → za.byte i = zaChecksum.byte i) ∧
    (∀ k, 209 ≤ k → k ≤ 224 → (k < 211 ∨ 217 < k) → sourceBit za k = sourceBit zaChecksum k) ∧
    exec .endBuffer (filled za) = .next (validateAndDecode za (filled za)) ∧
    exec .endBuffer (filled zaChecksum) = .next (validateAndDecode zaChecksum (filled zaChecksum)) ∧
    (validateAndDecode za (filled za)).state = .ok := by
  have h1 : Memory.wholeWindow (filled za).win = some za := whole_cells (by decide +kernel)
  have h2 : Memory.wholeWindow (filled zaChecksum).win = some zaChecksum := whole_cells (by decide +kernel)
  refine ⟨rfl, rfl, by decide +kernel, by decide +kernel, h1, h2, fun i a b => ?_, fun k a b c => ?_, ?_, ?_,
    by decide +kernel⟩
  · rw [zaChecksum, byte_set_of_ne _ _ b, byte_set_of_ne _ _ a]
  · have hk : k = 209 ∨ k = 210 ∨ k = 218 ∨ k = 219 ∨ k = 220 ∨ k = 221 ∨ k = 222 ∨ k = 223 ∨ k = 224 := by omega
    rcases hk with rfl | rfl | rfl | rfl | rfl | rfl | rfl | rfl | rfl <;> decide +kernel
  · exact exec_end_of_whole rfl (by decide +kernel) h1
  · exact exec_end_of_whole rfl (by decide +kernel) h2

theorem witness_RegisterValuesFitTheirWidth : ResultReg.value fl .ltSatId = .unsigned 0x1ABC ∧
    ResultReg.value fl .ltFvelCorr = .signed (-16383) := by decide +kernel

/-- V-A's end state meets the invariant. -/
theorem va_inv : va.Inv := by
  have hw : Memory.wf va.win := wf_cells (by decide +kernel)
  refine ⟨hw, windowFilled_of_whole hw witness_record.2 (by decide), ?_⟩
  exact ⟨by decide, rfl, za, witness_record.2, by decide +kernel, by decide +kernel, by decide +kernel⟩

theorem witness_SyncBitsReadLittleEndian : va.Inv ∧ va.state = .ok := ⟨va_inv, rfl⟩

theorem witness_FlagRegisterIsFrameByte295 : (va.state = .ok ∧ Memory.wholeWindow va.win = some za) ∧ 7 < 8 :=
  ⟨witness_record, by decide⟩

theorem witness_LayoutTilesFrameAndSection :
    (301 < 302) ∧ (239 < 240) ∧ (⟨.sips, 268, 272, "SIPS.spare"⟩ : LayoutRow) ∈ frameLayout := by decide

theorem witness_CommandErrorHasOneEffect :
    commandErrorCause (.push 0#8) State.reset ≠ none ∧ commandErrorCause .endBuffer va ≠ none ∧
    commandErrorCause (.rdreg 0x004#12) va ≠ none ∧ commandErrorCause (.rdreg 0x010#12) shortState ≠ none ∧
    commandErrorCause (.rdfrm 302#9) va ≠ none ∧ commandErrorCause (.extle 0#8 1#6) va ≠ none ∧
    commandErrorCause (.rdbe 295#9 8) va ≠ none ∧
    (commandErrorCause .nop { State.reset with cmdErr := true } = none ∧
      exec .nop { State.reset with cmdErr := true } = .next { State.reset with cmdErr := true } ∧
      { State.reset with cmdErr := true }.cmdErr = true) ∧
    (¬ legalWord 0x10001000#32 ∧ readOpcode (opcodeOf 0x10001000#32)) ∧
    (¬ legalWord 0x14000000#32 ∧ ¬ readOpcode (opcodeOf 0x14000000#32)) := by
  unfold legalWord readOpcode
  exact ⟨by decide +kernel, by decide +kernel, by decide +kernel, by decide +kernel, by decide +kernel, by decide +kernel,
   by decide +kernel, ⟨by decide +kernel, rfl, rfl⟩, by decide +kernel, by decide +kernel⟩

theorem witness_CommandErrorFlagIsSticky :
    (step { withWord va 0x01000000#32 with cmdErr := true } = .next State.reset ∧
      { withWord va 0x01000000#32 with cmdErr := true }.cmdErr = true ∧ State.reset.cmdErr = false) ∧
    (step { va with port := [.hardReset none], cmdErr := true } = .next State.reset ∧
      { va with port := [.hardReset none], cmdErr := true }.port = .hardReset none :: []) ∧
    (step (withWord va 0x05000000#32) = .next { va with cmdErr := true } ∧ ¬ legalWord 0x05000000#32) ∧
    (step (withWord va 0x04000000#32) = .next { va with cmdErr := true } ∧ decode 0x04000000#32 = .ok .endBuffer ∧
      commandErrorCause .endBuffer va ≠ none) := by
  unfold legalWord
  exact ⟨⟨rfl, rfl, rfl⟩, ⟨rfl, rfl⟩, ⟨rfl, by decide⟩, ⟨rfl, rfl, by decide⟩⟩

theorem witness_OneResponsePerReadWord :
    ((withWord va 0x10000000#32).port = .command 0x10000000#32 :: [] ∧
      step (withWord va 0x10000000#32) = .next (va.respond 2#64) ∧ readOpcode (opcodeOf 0x10000000#32)) ∧
    ((withWord va 0x13FFFFFF#32).port = .command 0x13FFFFFF#32 :: [] ∧
      step (withWord va 0x13FFFFFF#32) = .next (raiseCmdError .illegal 0x13#8 va) ∧ readOpcode (opcodeOf 0x13FFFFFF#32) ∧
      ¬ legalWord 0x13FFFFFF#32) ∧
    (step (withWord va 0x11000200#32) = .next (raiseCmdError .illegal 0x11#8 va) ∧
      step (withWord va 0x110001FF#32) = .next (raiseCmdError .badOperand 0x11#8 va) ∧
      decode 0x110001FF#32 = .ok (.rdfrm 511#9) ∧ commandErrorCause (.rdfrm 511#9) va ≠ none) ∧
    ((withWord va 0x00000000#32).port = .command 0x00000000#32 :: [] ∧ step (withWord va 0x00000000#32) = .next va ∧
      ¬ readOpcode (opcodeOf 0x00000000#32)) := by
  unfold readOpcode legalWord
  exact ⟨⟨rfl, rfl, by decide⟩, ⟨rfl, rfl, by decide, by decide⟩, ⟨rfl, rfl, rfl, by decide⟩, ⟨rfl, rfl, by decide⟩⟩

theorem witness_BufferStatesAreEnteredAsGiven :
    (step (withWord va 0x02000000#32) = .next { State.reset with state := .fill } ∧ BufState.fill ≠ va.state) ∧
    (step (withWord va 0x01000000#32) = .next State.reset ∧ State.reset.state ≠ va.state) ∧
    (step (withWord (filled []) 0x04000000#32) = .next (failTooShort (filled [])) ∧
      (failTooShort (filled [])).state ≠ (filled []).state) := ⟨⟨rfl, by decide⟩, ⟨rfl, by decide⟩, ⟨rfl, by decide⟩⟩

theorem witness_OnlyPushWritesTheWindow : step (withWord (filled []) 0x030000AB#32) = .next (shiftIn 0xAB#8 (filled [])) := rfl

theorem witness_EveryStepKeepsTheInvariant : va.Inv ∧ (withPort va ([.command 0x02000000#32])).Inv ∧
    step (withPort va ([.command 0x02000000#32])) = .next (openBuffer va) := ⟨va_inv, va_inv, rfl⟩

theorem witness_NoStepStopsUnderTheInvariant : (withPort va ([.command 0x1100012D#32])).Inv := va_inv

theorem witness_MissingFrameBytesStopTheRead :
    (Memory.wholeWindow { filled [] with cnt := 302#32 }.win = none ∧ { filled [] with cnt := 302#32 }.state = .fill ∧
      302 ≤ { filled [] with cnt := 302#32 }.cnt.toNat) ∧
    (Memory.wholeWindow { State.reset with state := .ok }.win = none ∧ { State.reset with state := .ok }.state = .ok ∧
      registerOf 0x088#12 = some (.result .ltSyncBits)) ∧
    ((301#9).toNat ≤ 301) ∧ (1 ≤ (240#8).toNat ∧ 1 ≤ (1#6).toNat ∧ (1#6).toNat ≤ 32 ∧ (240#8).toNat + (1#6).toNat - 1 ≤ 240) ∧
    (294#9).toNat + 8 ≤ 302 := by decide +kernel

theorem witness_EveryStepKeepsTheWindowForm : Memory.wf (filled [1#8, 2#8]).win ∧
    step (withWord (filled [1#8, 2#8]) 0x03000003#32) = .next (shiftIn 3#8 (filled [1#8, 2#8])) := ⟨by decide +kernel, rfl⟩

theorem witness_NormalisedFrameIsDefinedAsGiven : va.Inv ∧ va.normalisedFrame = some za ∧ 301 < 302 :=
  ⟨va_inv, witness_record.2, by decide⟩

theorem witness_InstancesNeverInteract :
    Platform.stepInstance [va, withWord State.reset 0x02000000#32] 1 = some (.next [va,
      { State.reset with state := .fill }]) := rfl



end Sys2Proof.Tests
end

section
/-! PROOFS. The layout of a frame (00_scope.md R8; 20_memory.md R62, R63; 44_ltas_frame.md R260).
The one idea: ranges that follow each other without gap or overlap hold each position between their ends exactly once. The
three tables are such sequences, which is checked row by row and not position by position. -/

namespace Sys2Proof.Proofs.Layout

open Sys2Proof.Machine

section Tiling

variable {α : Type} (range : α → Nat × Nat)

/-- The half-open ranges of `xs` follow each other from `lo` to `hi`: each starts where the one before it ends. -/
def tiles : List α → Nat → Nat → Bool
  | [], lo, hi => lo == hi
  | x :: xs, lo, hi => (range x).1 == lo && lo ≤ (range x).2 && tiles xs (range x).2 hi

/-- The members of `xs` whose range holds position `a`. -/
def holders (xs : List α) (a : Nat) : List α := xs.filter (fun x => (range x).1 ≤ a && a < (range x).2)

@[simp] theorem tiles_nil (lo hi : Nat) : tiles range [] lo hi = true ↔ lo = hi := by simp [tiles]

@[simp] theorem tiles_cons (x : α) (xs : List α) (lo hi : Nat) :
    tiles range (x :: xs) lo hi = true ↔ (range x).1 = lo ∧ lo ≤ (range x).2 ∧ tiles range xs (range x).2 hi = true := by
  simp [tiles, and_assoc]

@[simp] theorem holders_nil (a : Nat) : holders range [] a = [] := rfl

theorem length_holders_cons (x : α) (xs : List α) (a : Nat) :
    (holders range (x :: xs) a).length =
      (if (range x).1 ≤ a ∧ a < (range x).2 then 1 else 0) + (holders range xs a).length := by
  by_cases h : (range x).1 ≤ a ∧ a < (range x).2
  · simp [holders, h, Nat.add_comm]
  · simp [holders, h]

variable {range}

theorem le_of_tiles {xs : List α} {lo hi : Nat} (h : tiles range xs lo hi = true) : lo ≤ hi := by
  induction xs generalizing lo with
  | nil => exact ((tiles_nil range lo hi).1 h).le
  | cons x xs ih =>
    obtain ⟨-, hle, hrest⟩ := (tiles_cons range x xs lo hi).1 h
    exact hle.trans (ih hrest)

/-- A tiling holds a position once between its ends and not at all outside them. -/
theorem length_holders_of_tiles {xs : List α} {lo hi : Nat} (h : tiles range xs lo hi = true) (a : Nat) :
    (holders range xs a).length = if lo ≤ a ∧ a < hi then 1 else 0 := by
  induction xs generalizing lo with
  | nil =>
    have hends : lo = hi := (tiles_nil range lo hi).1 h
    rw [holders_nil, List.length_nil, if_neg (by omega)]
  | cons x xs ih =>
    obtain ⟨hstart, hle, hrest⟩ := (tiles_cons range x xs lo hi).1 h
    have hends : (range x).2 ≤ hi := le_of_tiles hrest
    rw [length_holders_cons, ih hrest, hstart]
    split_ifs <;> omega

theorem one_holder_of_tiles {xs : List α} {lo hi a : Nat} (h : tiles range xs lo hi = true) (hlo : lo ≤ a) (hhi : a < hi) :
    (holders range xs a).length = 1 := by
  rw [length_holders_of_tiles h, if_pos ⟨hlo, hhi⟩]

end Tiling

/-- The bytes of a section, as a half-open range. -/
def sectionRange (x : FrameSection) : Nat × Nat := (x.base, x.base + x.len)

/-- The bytes of a layout row, as a half-open range. -/
def rowRange (r : LayoutRow) : Nat × Nat := (r.lo, r.hi)

/-- The source bits of an LTAS field, from the 1-indexed inclusive form of R260 to a half-open range. -/
def fieldRange (f : LtasField) : Nat × Nat := (f.sourceBits.1, f.sourceBits.2 + 1)

theorem sections_tile_frame : tiles sectionRange FrameSection.all 0 302 = true := by decide

theorem frameLayout_tiles_frame : tiles rowRange frameLayout 0 302 = true := by decide

theorem ltasFields_tile_sourceBits : tiles fieldRange LtasField.all 1 241 = true := by decide

theorem filter_holds_eq_holders (xs : List FrameSection) (a : Nat) :
    xs.filter (fun x => x.holds a) = holders sectionRange xs a := rfl

theorem layoutRowsAt_eq_holders (a : Nat) : layoutRowsAt a = holders rowRange frameLayout a := rfl

theorem filter_sourceBits_eq_holders (xs : List LtasField) (n : Nat) :
    xs.filter (fun f => f.sourceBits.1 ≤ n && n ≤ f.sourceBits.2) = holders fieldRange xs n :=
  List.filter_congr fun f _ => congrArg (decide (f.sourceBits.1 ≤ n) && ·) (decide_eq_decide.2 Nat.lt_succ_iff.symm)

theorem one_section_holds {a : Nat} (ha : a < 302) : (FrameSection.all.filter (fun x => x.holds a)).length = 1 := by
  rw [filter_holds_eq_holders]
  exact one_holder_of_tiles sections_tile_frame a.zero_le ha

theorem one_layoutRow_holds {a : Nat} (ha : a < 302) : (layoutRowsAt a).length = 1 := by
  rw [layoutRowsAt_eq_holders]
  exact one_holder_of_tiles frameLayout_tiles_frame a.zero_le ha

theorem one_ltasField_holds {n : Nat} (hlo : 1 ≤ n) (hhi : n ≤ 240) :
    (LtasField.all.filter (fun f => f.sourceBits.1 ≤ n && n ≤ f.sourceBits.2)).length = 1 := by
  rw [filter_sourceBits_eq_holders]
  exact one_holder_of_tiles ltasFields_tile_sourceBits hlo (Nat.lt_succ_of_le hhi)

theorem layoutRow_within_section :
    ∀ r ∈ frameLayout, r.part.base ≤ r.lo ∧ r.lo < r.hi ∧ r.hi ≤ r.part.base + r.part.len := by decide

/-- Settles O47: each of the three tables is a tiling, and a tiling holds every position between its ends once. -/
theorem layoutTilesFrameAndSection : Obligations.LayoutTilesFrameAndSection := by
  unfold Obligations.LayoutTilesFrameAndSection
  refine ⟨fun a ha => one_section_holds ha, rfl, layoutRow_within_section, fun a ha => one_layoutRow_holds ha, rfl, ?_⟩
  exact fun k hk => one_ltasField_holds (Nat.le_add_left 1 k) hk

end Sys2Proof.Proofs.Layout
end

section
/-! PROOFS. The decoder of command words (30_encoding.md R108 to R111).
The two ideas: a mask that leaves the low k bits free selects the words of one block of 2^k values, and no two rows of the
opcode map agree on the bits both of them fix, so that the row that selects a word is the row the decoder takes. -/

namespace Sys2Proof.Proofs.Decoder

open Sys2Proof.Machine

/-- Two words put side by side, as an arithmetic sum. -/
theorem toNat_append_eq {m n : Nat} (x : BitVec m) (y : BitVec n) : (x ++ y).toNat = x.toNat * 2 ^ n + y.toNat := by
  rw [BitVec.toNat_append, ← Nat.shiftLeft_add_eq_or_of_lt y.isLt, Nat.shiftLeft_eq]

/-- A mask that leaves the low k bits free rounds the word down to a multiple of 2^k. -/
theorem toNat_and_highMask (w : CommandWord) (k : Nat) :
    (w &&& BitVec.allOnes 32 <<< k).toNat = w.toNat / 2 ^ k * 2 ^ k := by
  have hshift : w &&& BitVec.allOnes 32 <<< k = w >>> k <<< k := by
    apply BitVec.eq_of_getLsbD_eq
    intro i hi
    by_cases hk : i < k
    · simp [hk]
    · have hones : (BitVec.allOnes 32).getLsbD (i - k) = true := by
        rw [BitVec.getLsbD_allOnes, decide_eq_true (Nat.lt_of_le_of_lt (Nat.sub_le i k) hi)]
      simp only [BitVec.getLsbD_and, BitVec.getLsbD_shiftLeft, BitVec.getLsbD_ushiftRight, hones, hk, hi, decide_true,
        decide_false, Bool.not_false, Bool.and_true, Bool.true_and, Nat.add_sub_cancel' (Nat.le_of_not_lt hk)]
  have hle : w.toNat / 2 ^ k * 2 ^ k ≤ w.toNat := Nat.div_mul_le_self _ _
  rw [hshift, BitVec.toNat_shiftLeft, BitVec.toNat_ushiftRight, Nat.shiftLeft_eq, Nat.shiftRight_eq_div_pow,
    Nat.mod_eq_of_lt (Nat.lt_of_le_of_lt hle w.isLt)]

/-- A row whose format leaves the low k bits to operands selects one block of 2^k words. -/
theorem selects_iff {r : OpcodeRow} {k : Nat} (hk : r.mask = BitVec.allOnes 32 <<< k) (w : CommandWord) :
    r.selects w = true ↔ w.toNat / 2 ^ k * 2 ^ k = r.matchBits.toNat := by
  rw [OpcodeRow.selects, beq_iff_eq, hk, ← toNat_and_highMask, BitVec.toNat_inj]

/-- Two rows agree on every bit that both of them fix. -/
def rowsAgree (r r' : OpcodeRow) : Prop := r.matchBits &&& r'.mask = r'.matchBits &&& r.mask

theorem rowsAgree_of_selects {r r' : OpcodeRow} {w : CommandWord} (h : r.selects w = true) (h' : r'.selects w = true) :
    rowsAgree r r' := by
  have hr : w &&& r.mask = r.matchBits := beq_iff_eq.1 h
  have hr' : w &&& r'.mask = r'.matchBits := beq_iff_eq.1 h'
  rw [rowsAgree, ← hr, ← hr', BitVec.and_assoc, BitVec.and_assoc, BitVec.and_comm r.mask]

/-- The search of the decoder's map stops at the row that selects the word, where earlier rows disagree with it. -/
theorem find?_selects {rows : List OpcodeRow} (hp : rows.Pairwise (fun r r' => ¬ rowsAgree r r')) {r : OpcodeRow}
    (hr : r ∈ rows) {w : CommandWord} (h : r.selects w = true) : rows.find? (fun r => r.selects w) = some r := by
  induction rows with
  | nil => cases hr
  | cons x xs ih =>
    obtain ⟨hx, hxs⟩ := List.pairwise_cons.1 hp
    rcases List.mem_cons.1 hr with rfl | hmem
    · exact List.find?_cons_of_pos (p := fun r => OpcodeRow.selects r w) h
    · have hnot : ¬ x.selects w = true := fun hsel => hx r hmem (rowsAgree_of_selects hsel h)
      rw [List.find?_cons_of_neg (p := fun r => OpcodeRow.selects r w) hnot, ih hxs hmem]

theorem opcodeTable_pairwise_disagree : opcodeTable.Pairwise (fun r r' => ¬ rowsAgree r r') := by
  unfold rowsAgree; decide

/-- A word is decoded by any row that selects it (30_encoding.md R108, R111). -/
theorem decode_of_selects {r : OpcodeRow} (hr : r ∈ opcodeTable) {w : CommandWord} (h : r.selects w = true) :
    decode w = .ok (r.command w) := by
  rw [decode, find?_selects opcodeTable_pairwise_disagree hr h]

/-- A word that decodes was selected by a row of the map. -/
theorem selects_of_decode {w : CommandWord} {i : Instr} (h : decode w = .ok i) :
    ∃ r ∈ opcodeTable, r.selects w = true ∧ i = r.command w := by
  unfold decode at h
  split at h
  · next r hr =>
    exact ⟨r, List.mem_of_find?_eq_some hr, List.find?_some (p := fun r => OpcodeRow.selects r w) hr, (Except.ok.inj h).symm⟩
  · cases h

/-- The nine blocks of words that decode, each with its command and where the word holds its operands (30_encoding.md R101 to
R108). -/
inductive DecodesTo (w : CommandWord) : Instr → Prop
  | nop : w.toNat = 0x00000000 → DecodesTo w .nop
  | reset : w.toNat = 0x01000000 → DecodesTo w .reset
  | beginBuffer : w.toNat = 0x02000000 → DecodesTo w .beginBuffer
  | push : w.toNat / 2 ^ 8 = 0x030000 → DecodesTo w (.push (w.extractLsb' 0 8))
  | endBuffer : w.toNat = 0x04000000 → DecodesTo w .endBuffer
  | rdreg : w.toNat / 2 ^ 12 = 0x10000 → DecodesTo w (.rdreg (w.extractLsb' 0 12))
  | rdfrm : w.toNat / 2 ^ 9 = 0x088000 → DecodesTo w (.rdfrm (w.extractLsb' 0 9))
  | extle : w.toNat / 2 ^ 14 = 0x04800 → DecodesTo w (.extle (w.extractLsb' 0 8) (w.extractLsb' 8 6))
  | rdbe : w.toNat / 2 ^ 11 = 0x026000 → DecodesTo w (.rdbe (w.extractLsb' 0 9) (byteCount (w.extractLsb' 9 2)))

/-- The block of 2^k words at `c * 2^k`, as a quotient. -/
theorem selects_iff_div {r : OpcodeRow} (k : Nat) {c : Nat} (hk : r.mask = BitVec.allOnes 32 <<< k)
    (hc : r.matchBits.toNat = c * 2 ^ k) (w : CommandWord) : r.selects w = true ↔ w.toNat / 2 ^ k = c := by
  rw [selects_iff hk, hc, Nat.mul_left_inj (Nat.two_pow_pos k).ne']

/-- A row with no operand selects its one word. -/
theorem selects_iff_eq {r : OpcodeRow} {c : Nat} (hk : r.mask = BitVec.allOnes 32) (hc : r.matchBits.toNat = c)
    (w : CommandWord) : r.selects w = true ↔ w.toNat = c := by
  rw [selects_iff_div 0 (by rw [hk]; rfl) (by rw [hc, Nat.pow_zero, Nat.mul_one]), Nat.pow_zero, Nat.div_one]

theorem decodesTo_of_decode {w : CommandWord} {i : Instr} (h : decode w = .ok i) : DecodesTo w i := by
  obtain ⟨r, hr, hsel, rfl⟩ := selects_of_decode h
  simp only [opcodeTable, List.mem_cons, List.not_mem_nil, or_false] at hr
  rcases hr with rfl | rfl | rfl | rfl | rfl | rfl | rfl | rfl | rfl
  · exact .nop ((selects_iff_eq rfl rfl w).1 hsel)
  · exact .reset ((selects_iff_eq rfl rfl w).1 hsel)
  · exact .beginBuffer ((selects_iff_eq rfl rfl w).1 hsel)
  · exact .push ((selects_iff_div 8 rfl rfl w).1 hsel)
  · exact .endBuffer ((selects_iff_eq rfl rfl w).1 hsel)
  · exact .rdreg ((selects_iff_div 12 rfl rfl w).1 hsel)
  · exact .rdfrm ((selects_iff_div 9 rfl rfl w).1 hsel)
  · exact .extle ((selects_iff_div 14 rfl rfl w).1 hsel)
  · exact .rdbe ((selects_iff_div 11 rfl rfl w).1 hsel)

theorem decode_of_decodesTo {w : CommandWord} {i : Instr} (h : DecodesTo w i) : decode w = .ok i := by
  cases h with
  | nop h => exact decode_of_selects (r := opcodeTable[0]) (List.getElem_mem _) ((selects_iff_eq rfl rfl w).2 h)
  | reset h => exact decode_of_selects (r := opcodeTable[1]) (List.getElem_mem _) ((selects_iff_eq rfl rfl w).2 h)
  | beginBuffer h => exact decode_of_selects (r := opcodeTable[2]) (List.getElem_mem _) ((selects_iff_eq rfl rfl w).2 h)
  | push h => exact decode_of_selects (r := opcodeTable[3]) (List.getElem_mem _) ((selects_iff_div 8 rfl rfl w).2 h)
  | endBuffer h => exact decode_of_selects (r := opcodeTable[4]) (List.getElem_mem _) ((selects_iff_eq rfl rfl w).2 h)
  | rdreg h => exact decode_of_selects (r := opcodeTable[5]) (List.getElem_mem _) ((selects_iff_div 12 rfl rfl w).2 h)
  | rdfrm h => exact decode_of_selects (r := opcodeTable[6]) (List.getElem_mem _) ((selects_iff_div 9 rfl rfl w).2 h)
  | extle h => exact decode_of_selects (r := opcodeTable[7]) (List.getElem_mem _) ((selects_iff_div 14 rfl rfl w).2 h)
  | rdbe h => exact decode_of_selects (r := opcodeTable[8]) (List.getElem_mem _) ((selects_iff_div 11 rfl rfl w).2 h)

/-- Every word that decodes is legal (30_encoding.md R109). -/
theorem legalWord_of_decode {w : CommandWord} {i : Instr} (h : decode w = .ok i) : legalWord w := by
  unfold legalWord
  cases decodesTo_of_decode h <;> omega

theorem decode_eq_reset {w : CommandWord} (h : decode w = .ok .reset) : w = 0x01000000#32 := by
  cases decodesTo_of_decode h with
  | reset hw => exact BitVec.eq_of_toNat_eq hw

theorem decode_eq_beginBuffer {w : CommandWord} (h : decode w = .ok .beginBuffer) : w = 0x02000000#32 := by
  cases decodesTo_of_decode h with
  | beginBuffer hw => exact BitVec.eq_of_toNat_eq hw

theorem decode_eq_endBuffer {w : CommandWord} (h : decode w = .ok .endBuffer) : w = 0x04000000#32 := by
  cases decodesTo_of_decode h with
  | endBuffer hw => exact BitVec.eq_of_toNat_eq hw

theorem decode_encode_beginBuffer : decode (encode .beginBuffer) = .ok .beginBuffer := rfl

theorem toNat_encode_push (b : Byte) : (encode (.push b)).toNat = 0x030000 * 2 ^ 8 + b.toNat := by
  rw [encode, toNat_append_eq, Instr.operandField, toNat_append_eq]
  simp [Instr.opcode, opcPush]

/-- The word of a `PUSH` decodes to it (30_encoding.md R102, R108). -/
theorem decode_encode_push (b : Byte) : decode (encode (.push b)) = .ok (.push b) := by
  have hblock : (encode (.push b)).toNat / 2 ^ 8 = 0x030000 := by
    have := b.isLt
    rw [toNat_encode_push]
    omega
  have hfield : (encode (.push b)).extractLsb' 0 8 = b := by
    apply BitVec.eq_of_toNat_eq
    have := b.isLt
    rw [BitVec.extractLsb'_toNat, toNat_encode_push, Nat.shiftRight_zero]
    omega
  rw [decode_of_decodesTo (.push hblock), hfield]

end Sys2Proof.Proofs.Decoder
end

section
/-! PROOFS. What a command and a step can do, said once (40_control.md R130 to R140; 41_readback.md R160 to R165;
60_exceptions.md R330). Every command either fails its check, when it only raises a command error, or has one of seven effects;
a step is one command, an illegal word, a hardware reset or a wait. -/

namespace Sys2Proof.Proofs.Effects

open Sys2Proof.Machine

/-! ## The checks of a command -/

theorem commandErrorCause_eq_none {i : Instr} {s : State} :
    commandErrorCause i s = none ↔ stateLegal i s = true ∧ operandLegal i = true := by
  unfold commandErrorCause
  cases stateLegal i s <;> cases operandLegal i <;> simp

theorem commandErrorCause_push {b : Byte} {s : State} : commandErrorCause (.push b) s = none ↔ requireFill s = none := by
  simp [commandErrorCause_eq_none, requireFill_eq_none, stateLegal, operandLegal]

theorem commandErrorCause_endBuffer {s : State} : commandErrorCause .endBuffer s = none ↔ requireFill s = none := by
  simp [commandErrorCause_eq_none, requireFill_eq_none, stateLegal, operandLegal]

theorem commandErrorCause_rdfrm {off : FrameOffset} {s : State} :
    commandErrorCause (.rdfrm off) s = none ↔ checkRdfrm off s = none := by
  simp [commandErrorCause_eq_none, checkRdfrm, andThen_eq_none, requireFrame_eq_none, requireOperand_eq_none, stateLegal,
    operandLegal, State.frameDefined, rdfrmAccepts]

theorem commandErrorCause_extle {start : BitVec 8} {width : BitVec 6} {s : State} :
    commandErrorCause (.extle start width) s = none ↔ checkExtle start width s = none := by
  have hrange : operandLegal (.extle start width) = extleAccepts start width := by
    rw [Bool.eq_iff_iff]
    simp [operandLegal, extleAccepts]
    omega
  rw [commandErrorCause_eq_none, hrange, checkExtle, andThen_eq_none, requireFrame_eq_none, requireOperand_eq_none]
  rfl

theorem commandErrorCause_rdbe {off : FrameOffset} {n : Nat} {s : State} :
    commandErrorCause (.rdbe off n) s = none ↔ checkRdbe off n s = none := by
  simp [commandErrorCause_eq_none, checkRdbe, andThen_eq_none, requireFrame_eq_none, requireOperand_eq_none, stateLegal,
    operandLegal, State.frameDefined, rdbeAccepts]

theorem commandErrorCause_rdreg_unassigned {r : RegNumber} (hr : registerOf r = none) (s : State) :
    commandErrorCause (.rdreg r) s ≠ none := by
  simp [commandErrorCause_eq_none, operandLegal, hr]

theorem commandErrorCause_rdreg_status {r : RegNumber} {q : StatusReg} (hr : registerOf r = some (.status q)) (s : State) :
    commandErrorCause (.rdreg r) s = none := by
  simp [commandErrorCause_eq_none, stateLegal, operandLegal, hr]

theorem commandErrorCause_rdreg_result {r : RegNumber} {q : ResultReg} (hr : registerOf r = some (.result q)) {s : State} :
    commandErrorCause (.rdreg r) s = none ↔ requireRecord s = none := by
  simp [commandErrorCause_eq_none, requireRecord_eq_none, stateLegal, operandLegal, hr]

/-! ## A command whose check fails -/

theorem guarded_of_ne_none {c : Check} (hc : c ≠ none) (opc : Opcode) (s : State) (e : StepOutcome) :
    ∃ cause, guarded c opc s e = .next (raiseCmdError cause opc s) := by
  obtain ⟨cause, rfl⟩ := Option.ne_none_iff_exists'.1 hc
  exact ⟨cause, rfl⟩

/-- `RDREG` of an unassigned number is a command error in every state (41_readback.md R162). -/
theorem exec_rdreg_of_unassigned {r : RegNumber} (hr : registerOf r = none) (s : State) :
    exec (.rdreg r) s = .next (raiseCmdError .badOperand opcRdreg s) := by
  show execRdreg r s = _
  simp only [execRdreg, hr]

/-- A command whose check fails is a command error and nothing else (40_control.md R130). -/
theorem exec_of_commandError {i : Instr} {s : State} (h : commandErrorCause i s ≠ none) :
    ∃ cause, exec i s = .next (raiseCmdError cause i.opcode s) := by
  cases i with
  | nop => exact absurd rfl h
  | reset => exact absurd rfl h
  | beginBuffer => exact absurd rfl h
  | push b => exact guarded_of_ne_none (mt commandErrorCause_push.2 h) _ _ _
  | endBuffer => exact guarded_of_ne_none (mt commandErrorCause_endBuffer.2 h) _ _ _
  | rdreg r =>
    cases hr : registerOf r with
    | none => exact ⟨.badOperand, exec_rdreg_of_unassigned hr s⟩
    | some reg =>
      cases reg with
      | status q => exact absurd (commandErrorCause_rdreg_status hr s) h
      | result q =>
        obtain ⟨cause, hc⟩ := guarded_of_ne_none (mt (commandErrorCause_rdreg_result hr).2 h) opcRdreg s
          (withFrame s (fun F => .next (s.respond (q.response F))))
        refine ⟨cause, ?_⟩
        show execRdreg r s = _
        simp only [execRdreg, hr]
        exact hc
  | rdfrm off => exact guarded_of_ne_none (mt commandErrorCause_rdfrm.2 h) _ _ _
  | extle start width => exact guarded_of_ne_none (mt commandErrorCause_extle.2 h) _ _ _
  | rdbe off n => exact guarded_of_ne_none (mt commandErrorCause_rdbe.2 h) _ _ _

/-! ## A command whose check passes -/

/-- `RDREG` of a status register answers it in every state (10_state.md R32 to R35). -/
theorem exec_rdreg_of_status {r : RegNumber} {q : StatusReg} (hr : registerOf r = some (.status q)) (s : State) :
    exec (.rdreg r) s = .next (s.respond (q.response s)) := by
  show execRdreg r s = _
  simp only [execRdreg, hr]

theorem exec_rdreg_of_result {r : RegNumber} {q : ResultReg} (hr : registerOf r = some (.result q)) {s : State}
    (hs : s.state = .ok) :
    exec (.rdreg r) s = withFrame s (fun F => .next (s.respond (q.response F))) := by
  show execRdreg r s = _
  simp only [execRdreg, hr, requireRecord_eq_none.2 hs, guarded_none]

theorem exec_rdfrm_of_check {off : FrameOffset} {s : State} (h : checkRdfrm off s = none) :
    exec (.rdfrm off) s = withFrame s (fun F => .next (s.respond (zext64 (F.byte off.toNat).toNat))) := by
  show execRdfrm off s = _
  rw [execRdfrm, h, guarded_none]

theorem exec_extle_of_check {start : BitVec 8} {width : BitVec 6} {s : State} (h : checkExtle start width s = none) :
    exec (.extle start width) s =
      withFrame s (fun F => .next (s.respond (zext64 (F.lbits start.toNat (start.toNat + width.toNat - 1))))) := by
  show execExtle start width s = _
  rw [execExtle, h, guarded_none]

theorem exec_rdbe_of_check {off : FrameOffset} {n : Nat} {s : State} (h : checkRdbe off n s = none) :
    exec (.rdbe off n) s = withFrame s (fun F => .next (s.respond (zext64 (F.be off.toNat n)))) := by
  show execRdbe off n s = _
  rw [execRdbe, h, guarded_none]

/-- `END` in FILL with 302 bytes or more runs on the window (40_control.md R137). -/
theorem exec_end_of_long {s : State} (h : s.state = .fill) (hc : 302 ≤ s.cnt.toNat) :
    exec .endBuffer s = withFrame s (fun F => .next (validateAndDecode F s)) := by
  show execEnd s = _
  rw [execEnd, requireFill_eq_none.2 h, guarded_none, if_neg (Nat.not_lt.2 hc)]

/-- A legal read answers from the state's elements, or from the frame where that is defined. -/
theorem exec_readback {i : Instr} {s : State} (hi : isReadback i = true) (h : commandErrorCause i s = none) :
    (∃ v, exec i s = .next (s.respond v)) ∨
    (s.frameDefined = true ∧ ∃ f : Frame → Response, exec i s = withFrame s (fun F => .next (s.respond (f F)))) := by
  cases i with
  | nop => cases hi
  | reset => cases hi
  | beginBuffer => cases hi
  | push b => cases hi
  | endBuffer => cases hi
  | rdreg r =>
    cases hr : registerOf r with
    | none => exact absurd h (commandErrorCause_rdreg_unassigned hr s)
    | some reg =>
      cases reg with
      | status q => exact .inl ⟨_, exec_rdreg_of_status hr s⟩
      | result q =>
        have hs : s.state = .ok := requireRecord_eq_none.1 ((commandErrorCause_rdreg_result hr).1 h)
        exact .inr ⟨(frameDefined_iff s).2 (.inl hs), _, exec_rdreg_of_result hr hs⟩
  | rdfrm off =>
    have hc : checkRdfrm off s = none := commandErrorCause_rdfrm.1 h
    exact .inr ⟨requireFrame_eq_none.1 (andThen_eq_none.1 hc).1, _, exec_rdfrm_of_check hc⟩
  | extle start width =>
    have hc : checkExtle start width s = none := commandErrorCause_extle.1 h
    exact .inr ⟨requireFrame_eq_none.1 (andThen_eq_none.1 hc).1, _, exec_extle_of_check hc⟩
  | rdbe off n =>
    have hc : checkRdbe off n s = none := commandErrorCause_rdbe.1 h
    exact .inr ⟨requireFrame_eq_none.1 (andThen_eq_none.1 hc).1, _, exec_rdbe_of_check hc⟩

/-! ## Everything a command and a step can have done -/

/-- The effects a command can have had on a state. -/
inductive Effect (s : State) : Instr → State → Prop
  | nop : Effect s .nop s
  | reset : Effect s .reset (resetElements s)
  | beginBuffer : Effect s .beginBuffer (openBuffer s)
  | push (b : Byte) : s.state = .fill → Effect s (.push b) (shiftIn b s)
  | tooShort : s.state = .fill → s.cnt.toNat < 302 → Effect s .endBuffer (failTooShort s)
  | decoded (F : Frame) : s.state = .fill → 302 ≤ s.cnt.toNat → Memory.wholeWindow s.win = some F →
      Effect s .endBuffer (validateAndDecode F s)
  | answered {i : Instr} (v : Response) : isReadback i = true → commandErrorCause i s = none → Effect s i (s.respond v)
  | refused {i : Instr} (cause : CmdCause) : commandErrorCause i s ≠ none → Effect s i (raiseCmdError cause i.opcode s)

theorem effect_of_readback {i : Instr} {s t : State} (hi : isReadback i = true) (hc : commandErrorCause i s = none)
    (h : exec i s = .next t) : Effect s i t := by
  rcases exec_readback hi hc with ⟨v, hv⟩ | ⟨-, f, hf⟩
  · obtain rfl := Host.Outcome.next.inj (hv.symm.trans h)
    exact .answered v hi hc
  · obtain ⟨F, -, ht⟩ := withFrame_next (hf.symm.trans h)
    obtain rfl := Host.Outcome.next.inj ht
    exact .answered _ hi hc

/-- A command that answers a next state had one of the effects. -/
theorem effect_of_exec {i : Instr} {s t : State} (h : exec i s = .next t) : Effect s i t := by
  by_cases hc : commandErrorCause i s ≠ none
  · obtain ⟨cause, he⟩ := exec_of_commandError hc
    obtain rfl := Host.Outcome.next.inj (he.symm.trans h)
    exact .refused cause hc
  rw [not_not] at hc
  cases i with
  | nop => obtain rfl := Host.Outcome.next.inj h; exact .nop
  | reset => obtain rfl := Host.Outcome.next.inj h; exact .reset
  | beginBuffer => obtain rfl := Host.Outcome.next.inj h; exact .beginBuffer
  | push b =>
    have hs : s.state = .fill := requireFill_eq_none.1 (commandErrorCause_push.1 hc)
    obtain rfl := Host.Outcome.next.inj ((exec_push_of_fill b hs).symm.trans h)
    exact .push b hs
  | endBuffer =>
    have hs : s.state = .fill := requireFill_eq_none.1 (commandErrorCause_endBuffer.1 hc)
    rcases Nat.lt_or_ge s.cnt.toNat 302 with hlt | hge
    · obtain rfl := Host.Outcome.next.inj ((exec_end_of_short hs hlt).symm.trans h)
      exact .tooShort hs hlt
    · obtain ⟨F, hF, ht⟩ := withFrame_next ((exec_end_of_long hs hge).symm.trans h)
      obtain rfl := Host.Outcome.next.inj ht
      exact .decoded F hs hge hF
  | rdreg r => exact effect_of_readback rfl hc h
  | rdfrm off => exact effect_of_readback rfl hc h
  | extle start width => exact effect_of_readback rfl hc h
  | rdbe off n => exact effect_of_readback rfl hc h

/-- The effects a step can have had on a state. -/
inductive StepEffect (s : State) : State → Prop
  | waited : s.port = [] → StepEffect s s
  | hardReset {a : Option CommandWord} {es : List PortEvent} : s.port = .hardReset a :: es →
      StepEffect s (resetElements { s with port := es })
  | illegal {w : CommandWord} {es : List PortEvent} {e : DecodeError} : s.port = .command w :: es → decode w = .error e →
      StepEffect s (raiseCmdError .illegal (opcodeOf w) { s with port := es })
  | command {w : CommandWord} {es : List PortEvent} {i : Instr} {t : State} : s.port = .command w :: es → decode w = .ok i →
      Effect { s with port := es } i t → StepEffect s t

/-- A step that answers a next state had one of the effects. -/
theorem stepEffect_of_step {s t : State} (h : step s = .next t) : StepEffect s t := by
  rcases step_next h with ⟨hp, rfl⟩ | ⟨w, es, hp, hw⟩ | ⟨a, es, hp, rfl⟩
  · exact .waited hp
  · rcases runWord_next hw with ⟨i, hi, he⟩ | ⟨e, he, rfl⟩
    · exact .command hp hi (effect_of_exec he)
    · exact .illegal hp he
  · exact .hardReset hp

/-- What no event alone breaks, every command keeps, and a reset and a command error keep, every step keeps. -/
theorem step_keeps {P : State → Prop} (hport : ∀ s es, P s → P { s with port := es })
    (herror : ∀ cause opc s, P s → P (raiseCmdError cause opc s)) (hexec : ∀ {i s t}, Effect s i t → P s → P t)
    {s t : State} (h : step s = .next t) (hs : P s) : P t := by
  cases stepEffect_of_step h with
  | waited _ => exact hs
  | hardReset _ => exact hexec .reset (hport s _ hs)
  | illegal _ _ => exact herror _ _ _ (hport s _ hs)
  | command _ _ he => exact hexec he (hport s _ hs)

end Sys2Proof.Proofs.Effects
end

section
/-! PROOFS. The invariant of the seven elements and the window (10_state.md R22 to R30).
The one idea: the window holds exactly its last min(CNT, 302) bytes, so wherever a command may read the normalised frame the
window is whole; each effect of a command keeps that and the agreement of the elements. -/

namespace Sys2Proof.Proofs.Invariant

open Sys2Proof.Machine Sys2Proof.Proofs.Effects

/-! ## The window -/

/-- What a command can have done to the window: only `PUSH` writes it, and only `BEGIN` and `RESET` empty it. -/
theorem win_of_effect {i : Instr} {s t : State} (h : Effect s i t) :
    t.win = s.win ∨ t.win = Memory.empty ∨ ∃ b, i = .push b ∧ s.state = .fill ∧ t.win = Memory.pushByte s.win b := by
  cases h with
  | nop => exact .inl rfl
  | reset => exact .inr (.inl rfl)
  | beginBuffer => exact .inr (.inl rfl)
  | push b hs => exact .inr (.inr ⟨b, rfl, hs, rfl⟩)
  | tooShort _ _ => exact .inl rfl
  | decoded F _ _ _ => exact .inl (validateAndDecode_win F s)
  | answered v _ _ => exact .inl rfl
  | refused cause _ => exact .inl (raiseCmdError_win cause _ s)

theorem wf_of_effect {i : Instr} {s t : State} (h : Effect s i t) (hw : Memory.wf s.win) : Memory.wf t.win := by
  rcases win_of_effect h with e | e | ⟨b, -, -, e⟩
  · rwa [e]
  · rw [e]; exact Memory.wf_empty
  · rw [e]; exact Memory.wf_pushByte hw b

/-- Settles O57: the window of the next state is the window before, the empty one, or the one before with a byte shifted in. -/
theorem everyStepKeepsTheWindowForm : Obligations.EveryStepKeepsTheWindowForm := by
  unfold Obligations.EveryStepKeepsTheWindowForm
  intro s t hw h
  refine step_keeps (P := fun s => Memory.wf s.win) (fun _ _ hs => hs) (fun cause opc s hs => ?_) wf_of_effect h hw
  rwa [raiseCmdError_win]

theorem windowFilled_empty : windowFilled Memory.empty 0 := by
  intro a
  rw [Memory.read_empty]
  simp only [Option.isSome_none, Bool.false_eq_true, false_iff]
  omega

/-- A shift-in fills one more byte, up to the whole window, and the counter says so even where it saturates. -/
theorem windowFilled_pushByte {m : Memory} {c : BitVec 32} (h : windowFilled m c.toNat) (b : Byte) :
    windowFilled (Memory.pushByte m b) (countUp c).toNat := by
  intro a
  have hcount := countUp_toNat c
  rw [Memory.read_pushByte]
  split
  · simp only [Option.isSome_some, true_iff]
    omega
  · rw [h (a + 1)]
    omega

/-- A window with 302 pushes or more is whole. -/
theorem wholeWindow_of_filled {m : Memory} (hw : Memory.wf m) {n : Nat} (h : windowFilled m n) (hn : 302 ≤ n) :
    ∃ F : Frame, Memory.wholeWindow m = some F :=
  Option.isSome_iff_exists.1 ((Memory.wholeWindow_isSome hw).2 fun i hi => (h i).2 (by omega))

/-! ## The agreement of the elements with `STATE` -/

theorem elementsAgree_of_idle {s : State} (hs : s.state = .idle) :
    elementsAgree s ↔ s.cnt = 0#32 ∧ s.errCode = .none ∧ s.sync = 0#16 ∧ s.anom = 0#9 := by
  simp only [elementsAgree, hs]

theorem elementsAgree_of_fill {s : State} (hs : s.state = .fill) :
    elementsAgree s ↔ s.errCode = .none ∧ s.sync = 0#16 ∧ s.anom = 0#9 := by
  simp only [elementsAgree, hs]

theorem elementsAgree_of_ok {s : State} (hs : s.state = .ok) :
    elementsAgree s ↔ 302 ≤ s.cnt.toNat ∧ s.errCode = .none ∧
      ∃ F : Frame, Memory.wholeWindow s.win = some F ∧ syncValid (F.be 300 2) = true ∧ s.sync.toNat = F.be 300 2 ∧
        s.anom = F.anomalies := by
  simp only [elementsAgree, hs]

theorem elementsAgree_of_err {s : State} (hs : s.state = .err) :
    elementsAgree s ↔ s.anom = 0#9 ∧
      ((s.cnt.toNat < 302 ∧ s.errCode = .tooShort ∧ s.sync = 0#16) ∨
       (302 ≤ s.cnt.toNat ∧ s.errCode = .badSync ∧
          ∃ F : Frame, Memory.wholeWindow s.win = some F ∧ syncValid (F.be 300 2) = false ∧ s.sync.toNat = F.be 300 2)) := by
  simp only [elementsAgree, hs]

/-- The sync bytes fit the 16 bits of `SYNC` (10_state.md R28). -/
theorem toNat_syncWord (F : Frame) : (BitVec.ofNat 16 (F.be 300 2)).toNat = F.be 300 2 := by
  rw [BitVec.toNat_ofNat]
  exact Nat.mod_eq_of_lt (be_lt F 300 2)

/-- Either end of the decode, with a record or with a bad sync, leaves the elements in agreement with the frame. -/
theorem elementsAgree_validateAndDecode {s : State} {F : Frame} (hc : 302 ≤ s.cnt.toNat)
    (hF : Memory.wholeWindow s.win = some F) : elementsAgree (validateAndDecode F s) := by
  rw [validateAndDecode_eq]
  split
  · next hv => exact (elementsAgree_of_ok rfl).2 ⟨hc, rfl, F, hF, hv, toNat_syncWord F, rfl⟩
  · next hv => exact (elementsAgree_of_err rfl).2 ⟨rfl, .inr ⟨hc, rfl, F, hF, Bool.eq_false_iff.2 hv, toNat_syncWord F⟩⟩

/-! ## The invariant -/

/-- The invariant speaks of neither the port nor the responses nor `CMDERR`. -/
theorem inv_congr (s : State) (es : List PortEvent) (rs : List Response) (e : Bool) :
    State.Inv { s with port := es, resps := rs, cmdErr := e } ↔ s.Inv := Iff.rfl

theorem inv_raiseCmdError {cause : CmdCause} {opc : Opcode} {s : State} (h : s.Inv) : (raiseCmdError cause opc s).Inv := by
  rw [raiseCmdError_eq]
  exact (inv_congr s _ _ _).2 h

theorem inv_resetElements (s : State) : (resetElements s).Inv :=
  ⟨Memory.wf_empty, windowFilled_empty, (elementsAgree_of_idle rfl).2 ⟨rfl, rfl, rfl, rfl⟩⟩

theorem inv_openBuffer (s : State) : (openBuffer s).Inv :=
  ⟨Memory.wf_empty, windowFilled_empty, (elementsAgree_of_fill rfl).2 ⟨rfl, rfl, rfl⟩⟩

theorem inv_shiftIn {s : State} (b : Byte) (hs : s.state = .fill) (h : s.Inv) : (shiftIn b s).Inv := by
  obtain ⟨hw, hfilled, hagree⟩ := h
  exact ⟨Memory.wf_pushByte hw b, windowFilled_pushByte hfilled b,
    (elementsAgree_of_fill (s := shiftIn b s) hs).2 ((elementsAgree_of_fill hs).1 hagree)⟩

theorem inv_failTooShort {s : State} (hc : s.cnt.toNat < 302) (h : s.Inv) : (failTooShort s).Inv := by
  obtain ⟨hw, hfilled, -⟩ := h
  exact ⟨hw, hfilled, (elementsAgree_of_err rfl).2 ⟨rfl, .inl ⟨hc, rfl, rfl⟩⟩⟩

theorem inv_validateAndDecode {s : State} {F : Frame} (hc : 302 ≤ s.cnt.toNat) (hF : Memory.wholeWindow s.win = some F)
    (h : s.Inv) : (validateAndDecode F s).Inv := by
  obtain ⟨hw, hfilled, -⟩ := h
  refine ⟨?_, ?_, elementsAgree_validateAndDecode hc hF⟩
  · rwa [validateAndDecode_win]
  · rwa [validateAndDecode_win, validateAndDecode_cnt]

theorem inv_of_effect {i : Instr} {s t : State} (h : Effect s i t) (hi : s.Inv) : t.Inv := by
  cases h with
  | nop => exact hi
  | reset => exact inv_resetElements s
  | beginBuffer => exact inv_openBuffer s
  | push b hs => exact inv_shiftIn b hs hi
  | tooShort _ hc => exact inv_failTooShort hc hi
  | decoded F _ hc hF => exact inv_validateAndDecode hc hF hi
  | answered v _ _ => exact (inv_congr s _ _ _).2 hi
  | refused cause _ => exact inv_raiseCmdError hi

/-- Settles O53: the reset state is what a reset leaves of itself. -/
theorem resetStateMeetsTheInvariant : Obligations.ResetStateMeetsTheInvariant := inv_resetElements State.reset

/-- Settles O54: each effect of a command keeps the invariant, and so does every step. -/
theorem everyStepKeepsTheInvariant : Obligations.EveryStepKeepsTheInvariant := by
  unfold Obligations.EveryStepKeepsTheInvariant
  intro s t hi h
  exact step_keeps (P := State.Inv) (fun s es hs => (inv_congr s es _ _).2 hs) (fun _ _ _ => inv_raiseCmdError)
    inv_of_effect h hi

/-! ## The normalised frame, and that no step stops -/

/-- Under the invariant `F` is defined only over 302 pushed bytes or more (10_state.md R26). -/
theorem count_of_frameDefined {s : State} (h : s.Inv) (hs : s.frameDefined = true) : 302 ≤ s.cnt.toNat := by
  obtain ⟨-, -, hagree⟩ := h
  rcases (frameDefined_iff s).1 hs with hok | ⟨herr, hcode⟩
  · exact ((elementsAgree_of_ok hok).1 hagree).1
  · rcases ((elementsAgree_of_err herr).1 hagree).2 with ⟨-, hshort, -⟩ | ⟨hc, -, -⟩
    · rw [hshort] at hcode; cases hcode
    · exact hc

theorem wholeWindow_of_inv {s : State} (h : s.Inv) (hc : 302 ≤ s.cnt.toNat) :
    ∃ F : Frame, Memory.wholeWindow s.win = some F := by
  obtain ⟨hw, hfilled, -⟩ := h
  exact wholeWindow_of_filled hw hfilled hc

theorem withFrame_answers {s : State} (h : s.Inv) (hc : 302 ≤ s.cnt.toNat) (f : Frame → State) :
    ∃ t, withFrame s (fun F => .next (f F)) = .next t := by
  obtain ⟨F, hF⟩ := wholeWindow_of_inv h hc
  exact ⟨f F, withFrame_of_whole hF _⟩

theorem exec_readback_answers {i : Instr} {s : State} (hi : isReadback i = true) (hc : commandErrorCause i s = none)
    (h : s.Inv) : ∃ t, exec i s = .next t := by
  rcases exec_readback hi hc with ⟨v, hv⟩ | ⟨hs, f, hf⟩
  · exact ⟨_, hv⟩
  · rw [hf]; exact withFrame_answers h (count_of_frameDefined h hs) _

/-- Under the invariant every command answers a next state. -/
theorem exec_answers (i : Instr) {s : State} (h : s.Inv) : ∃ t, exec i s = .next t := by
  by_cases hc : commandErrorCause i s ≠ none
  · obtain ⟨cause, he⟩ := exec_of_commandError hc
    exact ⟨_, he⟩
  rw [not_not] at hc
  cases i with
  | nop => exact ⟨_, rfl⟩
  | reset => exact ⟨_, rfl⟩
  | beginBuffer => exact ⟨_, rfl⟩
  | push b => exact ⟨_, exec_push_of_fill b (requireFill_eq_none.1 (commandErrorCause_push.1 hc))⟩
  | endBuffer =>
    have hs : s.state = .fill := requireFill_eq_none.1 (commandErrorCause_endBuffer.1 hc)
    rcases Nat.lt_or_ge s.cnt.toNat 302 with hlt | hge
    · exact ⟨_, exec_end_of_short hs hlt⟩
    · rw [exec_end_of_long hs hge]; exact withFrame_answers h hge _
  | rdreg r => exact exec_readback_answers rfl hc h
  | rdfrm off => exact exec_readback_answers rfl hc h
  | extle start width => exact exec_readback_answers rfl hc h
  | rdbe off n => exact exec_readback_answers rfl hc h

theorem runWord_answers (w : CommandWord) {s : State} (h : s.Inv) : ∃ t, runWord w s = .next t := by
  unfold runWord
  split
  · exact exec_answers _ h
  · exact ⟨_, rfl⟩

/-- Settles O55: a command reads the frame only where the window is whole. -/
theorem noStepStopsUnderTheInvariant : Obligations.NoStepStopsUnderTheInvariant := by
  unfold Obligations.NoStepStopsUnderTheInvariant
  intro s h
  cases hp : s.port with
  | nil => exact ⟨s, step_of_empty hp⟩
  | cons e es =>
    cases e with
    | command w => rw [step_of_command hp]; exact runWord_answers w ((inv_congr s es _ _).2 h)
    | hardReset a => exact ⟨_, step_of_hardReset hp⟩

/-- The invariant goes along every run. -/
theorem runSteps_of_inv (n : Nat) {s : State} (h : s.Inv) : ∃ t, runSteps n s = .next t ∧ t.Inv := by
  refine runSteps_of_invariant (fun s hs => ?_) n h
  obtain ⟨t, ht⟩ := noStepStopsUnderTheInvariant s hs
  exact ⟨t, ht, everyStepKeepsTheInvariant s t hs ht⟩

/-- The normalised frame is the whole window, where `F` is defined. -/
theorem normalisedFrame_eq_some {s : State} {F : Frame} :
    s.normalisedFrame = some F ↔ s.frameDefined = true ∧ Memory.wholeWindow s.win = some F := by
  unfold State.normalisedFrame
  split <;> simp_all

/-- Settles O58: where `F` is defined, the window is whole and holds its 302 bytes. -/
theorem normalisedFrameIsDefinedAsGiven : Obligations.NormalisedFrameIsDefinedAsGiven := by
  unfold Obligations.NormalisedFrameIsDefinedAsGiven
  intro s h
  refine ⟨?_, fun F hF => ?_⟩
  · rw [← frameDefined_iff, Option.isSome_iff_exists]
    constructor
    · rintro ⟨F, hF⟩
      exact (normalisedFrame_eq_some.1 hF).1
    · intro hs
      obtain ⟨F, hF⟩ := wholeWindow_of_inv h (count_of_frameDefined h hs)
      exact ⟨F, normalisedFrame_eq_some.2 ⟨hs, hF⟩⟩
  · obtain ⟨hs, hwhole⟩ := normalisedFrame_eq_some.1 hF
    exact ⟨count_of_frameDefined h hs, (Memory.wholeWindow_some hwhole).1, fun i hi => read_of_whole hwhole hi⟩

/-! ## A window that is not whole (log entry 5) -/

theorem withFrame_of_missing {s : State} (h : Memory.wholeWindow s.win = none) (k : Frame → StepOutcome) :
    withFrame s k = .fault .windowByteHasNoValue := by
  simp [withFrame, h]

/-- The operands `EXTLE` accepts (41_readback.md R164). -/
theorem extleAccepts_iff {a : BitVec 8} {w : BitVec 6} :
    extleAccepts a w = true ↔ 1 ≤ a.toNat ∧ 1 ≤ w.toNat ∧ w.toNat ≤ 32 ∧ a.toNat + w.toNat - 1 ≤ 240 := by
  simp only [extleAccepts, Bool.and_eq_true, decide_eq_true_eq, and_assoc]

/-- Settles O56: each of the five commands runs on the window once its checks have passed, and the window has no frame. -/
theorem missingFrameBytesStopTheRead : Obligations.MissingFrameBytesStopTheRead := by
  unfold Obligations.MissingFrameBytesStopTheRead
  intro s h
  refine ⟨fun hs hc => ?_, fun hs r q hr => ?_, fun hs =>
    ⟨fun off hoff => ?_, fun a w ha hw hw32 hend => ?_, fun off n hoff => ?_⟩⟩
  · rw [exec_end_of_long hs hc, withFrame_of_missing h]
  · rw [exec_rdreg_of_result hr hs, withFrame_of_missing h]
  · have hc : checkRdfrm off s = none := frameCheck_none ((frameDefined_iff s).2 hs) (decide_eq_true hoff)
    rw [exec_rdfrm_of_check hc, withFrame_of_missing h]
  · have hc : checkExtle a w s = none :=
      frameCheck_none ((frameDefined_iff s).2 hs) (extleAccepts_iff.2 ⟨ha, hw, hw32, hend⟩)
    rw [exec_extle_of_check hc, withFrame_of_missing h]
  · have hc : checkRdbe off n s = none := frameCheck_none ((frameDefined_iff s).2 hs) (decide_eq_true hoff)
    rw [exec_rdbe_of_check hc, withFrame_of_missing h]

end Sys2Proof.Proofs.Invariant
end

section
/-! PROOFS. What a step does to `STATE`, to `CMDERR` and to `CNT` (10_state.md R21 to R25, R30), from the effects a step can
have. -/

namespace Sys2Proof.Proofs.Elements

open Sys2Proof.Machine Sys2Proof.Proofs.Decoder Sys2Proof.Proofs.Effects

/-! ## A reset (log entries 3 and 4) -/

/-- Settles O11: both resets are the reset of the elements, which keeps the port and the responses. -/
theorem resetKeepsThePortAndTheResponses : Obligations.ResetKeepsThePortAndTheResponses := by
  unfold Obligations.ResetKeepsThePortAndTheResponses
  exact ⟨fun s => rfl, fun s a es hp => step_of_hardReset hp⟩

/-! ## `CMDERR` -/

/-- No command but `RESET` clears `CMDERR` (40_control.md R133). -/
theorem effect_keeps_cmdErr {i : Instr} {s t : State} (h : Effect s i t) (hi : i ≠ .reset) (hs : s.cmdErr = true) :
    t.cmdErr = true := by
  cases h with
  | nop => exact hs
  | reset => exact absurd rfl hi
  | beginBuffer => exact hs
  | push b _ => exact hs
  | tooShort _ _ => exact hs
  | decoded F _ _ _ => exact (validateAndDecode_cmdErr F s).trans hs
  | answered v _ _ => exact hs
  | refused cause _ => exact raiseCmdError_cmdErr cause _ s

/-- A step with `CMDERR` set leaves it set or takes a reset off the port. -/
theorem cmdErr_kept_or_reset {s t : State} (h : step s = .next t) (hs : s.cmdErr = true) :
    t.cmdErr = true ∨ ∃ es, s.port = .command 0x01000000#32 :: es ∨ ∃ a, s.port = .hardReset a :: es := by
  cases stepEffect_of_step h with
  | waited _ => exact .inl hs
  | hardReset hp => exact .inr ⟨_, .inr ⟨_, hp⟩⟩
  | illegal _ _ => exact .inl (raiseCmdError_cmdErr _ _ _)
  | @command w es i _ hp hi he =>
    by_cases hreset : i = .reset
    · subst hreset
      exact .inr ⟨_, .inl (decode_eq_reset hi ▸ hp)⟩
    · exact .inl (effect_keeps_cmdErr he hreset hs)

/-- A step on the word of `RESET` resets the elements. -/
theorem step_of_resetWord {s : State} {es : List PortEvent} (hp : s.port = .command 0x01000000#32 :: es) :
    step s = .next (resetElements { s with port := es }) := by
  rw [step_of_command hp]; rfl

/-- An illegal word, or a command whose check fails, leaves `CMDERR` set (60_exceptions.md R330). -/
theorem cmdErr_of_commandError {w : CommandWord} {s t : State} (h : runWord w s = .next t)
    (hw : ¬ legalWord w ∨ ∃ i, decode w = .ok i ∧ commandErrorCause i s ≠ none) : t.cmdErr = true := by
  rcases runWord_next h with ⟨i, hi, he⟩ | ⟨e, -, rfl⟩
  · rcases hw with hnot | ⟨j, hj, hc⟩
    · exact absurd (legalWord_of_decode hi) hnot
    · obtain rfl := Except.ok.inj (hj.symm.trans hi)
      obtain ⟨cause, herr⟩ := exec_of_commandError hc
      obtain rfl := Host.Outcome.next.inj (herr.symm.trans he)
      exact raiseCmdError_cmdErr cause _ s
  · exact raiseCmdError_cmdErr _ _ s

/-- Settles O49: only a reset clears the flag, either reset does, and every command error sets it. -/
theorem commandErrorFlagIsSticky : Obligations.CommandErrorFlagIsSticky := by
  unfold Obligations.CommandErrorFlagIsSticky
  intro s t h
  refine ⟨fun hs ht => ?_, fun es a hp => ?_, fun w es hp hw => ?_⟩
  · exact (cmdErr_kept_or_reset h hs).resolve_left (by rw [ht]; exact Bool.false_ne_true)
  · rcases hp with hp | hp
    · obtain rfl := Host.Outcome.next.inj ((step_of_resetWord hp).symm.trans h)
      rfl
    · obtain rfl := Host.Outcome.next.inj ((step_of_hardReset hp).symm.trans h)
      rfl
  · exact cmdErr_of_commandError ((step_of_command hp).symm.trans h) hw

/-! ## `STATE` -/

/-- What a command can have done to `STATE` (10_state.md R23). -/
theorem state_of_effect {i : Instr} {s t : State} (h : Effect s i t) :
    t.state = s.state ∨ (i = .reset ∧ t.state = .idle) ∨ (i = .beginBuffer ∧ t.state = .fill) ∨
      (i = .endBuffer ∧ s.state = .fill ∧ (t.state = .ok ∨ t.state = .err)) := by
  cases h with
  | nop => exact .inl rfl
  | reset => exact .inr (.inl ⟨rfl, rfl⟩)
  | beginBuffer => exact .inr (.inr (.inl ⟨rfl, rfl⟩))
  | push b _ => exact .inl rfl
  | tooShort hs _ => exact .inr (.inr (.inr ⟨rfl, hs, .inr rfl⟩))
  | decoded F hs _ _ =>
    refine .inr (.inr (.inr ⟨rfl, hs, ?_⟩))
    rw [validateAndDecode_eq]
    split
    · exact .inl rfl
    · exact .inr rfl
  | answered v _ _ => exact .inl rfl
  | refused cause _ => exact .inl (raiseCmdError_state cause _ s)

/-- Settles O51: a step that changes `STATE` is a reset, `BEGIN`, or `END` in FILL. -/
theorem bufferStatesAreEnteredAsGiven : Obligations.BufferStatesAreEnteredAsGiven := by
  unfold Obligations.BufferStatesAreEnteredAsGiven
  refine ⟨⟨rfl, rfl, rfl, rfl⟩, fun s t h hne => ?_⟩
  cases stepEffect_of_step h with
  | waited _ => exact absurd rfl hne
  | hardReset hp => exact .inl ⟨rfl, _, .inr ⟨_, hp⟩⟩
  | illegal _ _ => exact absurd (raiseCmdError_state _ _ _) hne
  | command hp hi he =>
    rcases state_of_effect he with hsame | ⟨rfl, ht⟩ | ⟨rfl, ht⟩ | ⟨rfl, hs, ht⟩
    · exact absurd hsame hne
    · exact .inl ⟨ht, _, .inl (decode_eq_reset hi ▸ hp)⟩
    · exact .inr (.inl ⟨ht, _, decode_eq_beginBuffer hi ▸ hp⟩)
    · exact .inr (.inr ⟨ht, hs, _, decode_eq_endBuffer hi ▸ hp⟩)

/-! ## The run that opens and fills a buffer, and `CNT` -/

/-- The state after the bytes of `p` are shifted in, in order. -/
def shiftInAll (p : List Byte) (s : State) : State := p.foldl (fun t b => shiftIn b t) s

@[simp] theorem shiftInAll_nil (s : State) : shiftInAll [] s = s := rfl

@[simp] theorem shiftInAll_cons (b : Byte) (p : List Byte) (s : State) :
    shiftInAll (b :: p) s = shiftInAll p (shiftIn b s) := rfl

/-- `BEGIN`'s word opens a buffer. -/
theorem step_of_begin {s : State} {es : List PortEvent} (hp : s.port = .command (encode .beginBuffer) :: es) :
    step s = .next (openBuffer { s with port := es }) := by
  rw [step_of_command hp, runWord, decode_encode_beginBuffer]; rfl

/-- A `PUSH`'s word in FILL shifts its byte in. -/
theorem step_of_push {s : State} {b : Byte} {es : List PortEvent} (hs : s.state = .fill)
    (hp : s.port = .command (encode (.push b)) :: es) : step s = .next (shiftIn b { s with port := es }) := by
  rw [step_of_command hp, runWord, decode_encode_push]
  exact exec_push_of_fill b hs

/-- The `PUSH`es of `p` in FILL shift the bytes of `p` in and leave the rest of the port. -/
theorem runSteps_pushes {p : List Byte} {s : State} {es : List PortEvent} (hs : s.state = .fill)
    (hp : s.port = p.map (fun b => PortEvent.command (encode (.push b))) ++ es) :
    runSteps p.length s = .next (shiftInAll p { s with port := es }) := by
  induction p generalizing s with
  | nil =>
    obtain rfl : s.port = es := hp
    rfl
  | cons b p ih =>
    rw [List.length_cons, runSteps_of_step (step_of_push hs hp)]
    exact ih (s := shiftIn b { s with port := _ }) hs rfl

/-- The events that open and fill a buffer leave a fresh buffer with the bytes shifted in. -/
theorem runSteps_fillEvents {p : List Byte} {s : State} {es : List PortEvent} (hp : s.port = fillEvents p ++ es) :
    runSteps (p.length + 1) s = .next (shiftInAll p (openBuffer { s with port := es })) := by
  rw [runSteps_of_step (step_of_begin hp), runSteps_pushes rfl rfl]
  rfl

/-- The counter counts the bytes up to its maximum (10_state.md R25). -/
theorem shiftInAll_cnt (p : List Byte) (s : State) :
    (shiftInAll p s).cnt.toNat = min (s.cnt.toNat + p.length) 0xFFFFFFFF := by
  induction p generalizing s with
  | nil =>
    have := s.cnt.isLt
    rw [shiftInAll_nil, List.length_nil]
    omega
  | cons b p ih =>
    rw [shiftInAll_cons, ih, shiftIn_cnt, countUp_toNat, List.length_cons]
    omega

/-- Settles O20: the run of `BEGIN` and the `PUSH`es ends with the counter at the number of bytes, saturated. -/
theorem countIsTheNumberOfPushesSaturated : Obligations.CountIsTheNumberOfPushesSaturated := by
  unfold Obligations.CountIsTheNumberOfPushesSaturated
  intro s p es hp
  refine ⟨_, runSteps_fillEvents hp, ?_⟩
  rw [shiftInAll_cnt, openBuffer_cnt, BitVec.toNat_zero, Nat.zero_add]

end Sys2Proof.Proofs.Elements
end

section
/-! PROOFS. The registers: the four status registers, the unassigned numbers, and the widths of the result registers (10_state.md
R31 to R38). -/

namespace Sys2Proof.Proofs.Registers

open Sys2Proof.Machine Sys2Proof.Proofs.Decoder Sys2Proof.Proofs.Effects

/-! ## The status registers (10_state.md R32 to R35) -/

theorem toNat_ofBool (b : Bool) : (BitVec.ofBool b).toNat = if b then 1 else 0 := by
  cases b <;> rfl

/-- The four fields of `STATUS`, each at its place (10_state.md R32). -/
theorem toNat_statusWord (s : State) :
    s.statusWord.toNat = s.state.code.toNat + 4 * s.errCode.code.toNat + (if s.cmdErr then 16 else 0) +
      (if s.anom = 0#9 then 0 else 32) := by
  have hword : s.statusWord.toNat =
      (((BitVec.ofBool s.anyAnom).toNat * 2 ^ 1 + (BitVec.ofBool s.cmdErr).toNat) * 2 ^ 2 + s.errCode.code.toNat) * 2 ^ 2 +
        s.state.code.toNat := by
    rw [State.statusWord, BitVec.zeroExtend_eq_setWidth, BitVec.toNat_setWidth_of_le (by decide), toNat_append_eq,
      toNat_append_eq, toNat_append_eq]
  have hanom : (BitVec.ofBool s.anyAnom).toNat = if s.anom = 0#9 then 0 else 1 := by
    by_cases h : s.anom = 0#9 <;> simp [State.anyAnom, h]
  rw [hword, hanom, toNat_ofBool]
  split_ifs <;> omega

/-- Settles O23: each number names its register, and each response is its elements as a number. -/
theorem statusRegistersReadInEveryState : Obligations.StatusRegistersReadInEveryState := by
  unfold Obligations.StatusRegistersReadInEveryState
  intro s
  refine ⟨⟨s.statusWord, exec_rdreg_of_status (q := .status) rfl s, toNat_statusWord s⟩, ?_, ?_, ?_⟩
  · rw [BitVec.ofNat_toNat]; exact exec_rdreg_of_status (q := .count) rfl s
  · rw [BitVec.ofNat_toNat]; exact exec_rdreg_of_status (q := .syncVal) rfl s
  · rw [BitVec.ofNat_toNat]; exact exec_rdreg_of_status (q := .anomaly) rfl s

/-! ## The unassigned numbers (10_state.md R37) -/

theorem statusNumbers_eq : StatusReg.all.map StatusReg.number = List.range' 0x000 4 := rfl

/-- The result registers stand in six runs of consecutive numbers (10_state.md R36). -/
theorem resultNumbers_eq : ResultReg.all.map ResultReg.number =
    List.range' 0x010 6 ++ List.range' 0x020 7 ++ List.range' 0x030 14 ++ List.range' 0x040 11 ++ List.range' 0x050 4 ++
      List.range' 0x060 41 := rfl

/-- A number is unassigned when neither table holds it. -/
theorem registerOf_eq_none {r : RegNumber} :
    registerOf r = none ↔
      r.toNat ∉ StatusReg.all.map StatusReg.number ∧ r.toNat ∉ ResultReg.all.map ResultReg.number := by
  unfold registerOf
  split
  · next q hq =>
    have hmem : r.toNat ∈ StatusReg.all.map StatusReg.number :=
      List.mem_map.2 ⟨q, List.mem_of_find?_eq_some hq,
        beq_iff_eq.1 (List.find?_some (p := fun q => StatusReg.number q == r.toNat) hq)⟩
    simp [hmem]
  · next hq =>
    have hnot : r.toNat ∉ StatusReg.all.map StatusReg.number := by simpa [List.find?_eq_none] using hq
    simp [hnot, List.find?_eq_none]

theorem unassignedNumber_iff (r : RegNumber) : unassignedNumber r.toNat ↔ registerOf r = none := by
  have := r.isLt
  rw [registerOf_eq_none, statusNumbers_eq, resultNumbers_eq, unassignedNumber]
  simp only [List.mem_append, List.mem_range'_1]
  omega

/-- Settles O24: the unassigned numbers are the gaps between the runs of the two tables. -/
theorem unassignedNumbersAreCommandErrors : Obligations.UnassignedNumbersAreCommandErrors := by
  unfold Obligations.UnassignedNumbersAreCommandErrors
  refine fun r => ⟨unassignedNumber_iff r, fun hr s => ?_⟩
  exact exec_rdreg_of_unassigned ((unassignedNumber_iff r).1 hr) s

/-! ## The widths of the result registers (10_state.md R36, R38) -/

/-- A register's value is of the signedness given and in the range of the width given. -/
def fits : RegValue → Bool → Nat → Prop
  | .unsigned v, signed, width => signed = false ∧ v < 2 ^ width
  | .signed v, signed, width => signed = true ∧ -(2 ^ (width - 1) : Int) ≤ v ∧ v < 2 ^ (width - 1)

theorem fits_be (F : Frame) (a n : Nat) : fits (.unsigned (F.be a n)) false (8 * n) :=
  ⟨rfl, by rw [Nat.pow_mul]; exact be_lt F a n⟩

theorem fits_lbits (F : Frame) (a b : Nat) : fits (.unsigned (F.lbits a b)) false (b - a + 1) := ⟨rfl, lbits_lt F a b⟩

theorem fits_tlen (F : Frame) (a : Nat) {w k : Nat} (hw : w < 2 ^ k) : fits (.unsigned (F.tlen a w)) false k :=
  ⟨rfl, Nat.lt_of_le_of_lt (tlen_le F a w) hw⟩

/-- A big-endian word read as signed (43_sips_header.md R242, R245). -/
theorem fits_sext {v : Nat} (hv : v < 2 ^ 32) : fits (.signed (sext 32 v)) true 32 := by
  refine ⟨rfl, ?_⟩
  unfold sext
  split <;> omega

/-- A corrected value of an N-bit magnitude and a sign has N + 1 bits (44_ltas_frame.md R263). -/
theorem fits_corr {N m : Nat} (hm : m < 2 ^ N) (s : Nat) : fits (.signed (corr N m s)) true (N + 1) := by
  have hxor : m ^^^ (2 ^ N - 1) < 2 ^ N := Nat.xor_lt_two_pow hm (Nat.sub_one_lt (Nat.two_pow_pos N).ne')
  have hcast : ((2 ^ N : Nat) : Int) = 2 ^ N := by push_cast; rfl
  refine ⟨rfl, ?_⟩
  rw [Nat.add_sub_cancel, ← hcast]
  unfold corr
  split <;> omega

theorem byteOrder_code_lt (c : ByteOrder) : c.code < 2 ^ 2 := by cases c <;> decide
theorem extHeaderType_code_lt (c : ExtHeaderType) : c.code < 2 ^ 3 := by cases c <;> decide
theorem addressType_code_lt (c : AddressType) : c.code < 2 ^ 2 := by cases c <;> decide
theorem rangeAvailability_code_lt (c : RangeAvailability) : c.code < 2 ^ 2 := by cases c <;> decide
theorem category_code_lt (c : Category) : c.code < 2 ^ 2 := by cases c <;> decide
theorem messageType_code_lt (c : MessageType) : c.code < 2 ^ 3 := by cases c <;> decide
theorem certified_code_lt (c : Certified) : c.code < 2 ^ 2 := by cases c <;> decide
theorem velocityScale_code_lt (c : VelocityScale) : c.code < 2 ^ 2 := by cases c <;> decide
theorem velocityScale_factor_lt (c : VelocityScale) : c.factor < 2 ^ 4 := by cases c <;> decide
theorem positionScale_factor_lt (c : PositionScale) : c.factor < 2 ^ 37 := by cases c <;> decide
theorem pulseWidth_tenthsUs_lt (c : PulseWidth) : c.tenthsUs < 2 ^ 7 := by cases c <;> decide

/-- Every register's value fits the signedness and the width of its row, by the primitive that the register reads with. -/
theorem value_fits (F : Frame) (q : ResultReg) : fits (q.value F) q.isSigned q.width := by
  cases q with
  | fhBorder => exact ⟨rfl, byteOrder_code_lt _⟩
  | fhExtType => exact ⟨rfl, extHeaderType_code_lt _⟩
  | eaAddrType => exact ⟨rfl, addressType_code_lt _⟩
  | tpRangeAv => exact ⟨rfl, rangeAvailability_code_lt _⟩
  | eiCat => exact ⟨rfl, category_code_lt _⟩
  | eiType => exact ⟨rfl, messageType_code_lt _⟩
  | eiCert => exact ⟨rfl, certified_code_lt _⟩
  | ltVscale => exact ⟨rfl, velocityScale_code_lt _⟩
  | ltVscaleFactor => exact ⟨rfl, velocityScale_factor_lt _⟩
  | ltPscaleFactor => exact ⟨rfl, positionScale_factor_lt _⟩
  | ltPwTenthsUs => exact ⟨rfl, pulseWidth_tenthsUs_lt _⟩
  | eaSiteIdLen | eaSysNameLen | eaLuNameLen | eaBoxIdLen | eiGroupLen => exact fits_tlen F _ (by decide)
  | tpDqual => exact ⟨rfl, (F.byte 184).isLt⟩
  | eiId | eiPrio => exact fits_sext (be_lt F _ 4)
  | ltEposCorr | ltFposCorr | ltGposCorr => exact fits_corr (N := 27) (lbits_lt F _ _) _
  | ltFvelCorr | ltEvelCorr | ltGvelCorr => exact fits_corr (N := 14) (lbits_lt F _ _) _
  | fhBorderRaw | fhExtTypeRaw | fhBodySize | fhBlockSize | eaAddrTypeRaw | eaTaskId | tpRangeAvRaw | tpYear | tpDoy | tpSecs
  | tpUsec | tpLat | tpLon | tpHgt | tpAz | tpEl | tpRange | tpSiteId | eiCatRaw | eiTypeRaw | eiUnit | eiCertRaw | eiSecKey
  | tsYear | tsDoy | tsSecs | tsUsec => exact fits_be F _ _
  | ltSatId | ltVehId | ltDoy | ltFmt | ltTodt | ltTods | ltSiteId | ltEposMag | ltEposSign | ltPscale | ltFposMag | ltFposSign
  | ltVscaleRaw | ltGposMag | ltGposSign | ltOptTrk | ltPlusTime | ltFvelMag | ltFvelSign | ltEvelMag | ltEvelSign | ltLiftoff
  | ltPlunge | ltPw | ltFlags | ltMode | ltGvelMag | ltGvelSign | ltChecksum | ltSpare | ltSyncBits => exact fits_lbits F _ _

/-- Settles O44: the value of every register fits its row. -/
theorem registerValuesFitTheirWidth : Obligations.RegisterValuesFitTheirWidth := by
  unfold Obligations.RegisterValuesFitTheirWidth
  refine fun F q => ⟨fun v hv => ?_, fun v hv => ?_⟩
  · have h := value_fits F q
    rw [hv] at h
    exact h
  · have h := value_fits F q
    rw [hv] at h
    exact h

end Sys2Proof.Proofs.Registers
end

section
/-! PROOFS. The reads of the frame (20_memory.md R64, R70 to R73).
The one idea: bit `k` of `LE(a, n)` is bit `k mod 8` of byte `F[a + k div 8]`, so a field is told by its bits alone, whatever
window it is cut from. -/

namespace Sys2Proof.Proofs.FrameReads

open Sys2Proof.Machine

/-! ## The sums of bytes (20_memory.md R70, R71) -/

theorem be_eq_beSum (F : Frame) (a n : Nat) : F.be a n = beSum F a n := by
  induction n with
  | zero => rfl
  | succ n ih =>
    rw [be_succ, ih, beSum, beSum, Finset.sum_range_succ, Finset.sum_mul]
    congr 1
    · refine Finset.sum_congr rfl fun j hj => ?_
      have := Finset.mem_range.1 hj
      rw [Nat.mul_assoc, show 8 * (n + 1 - 1 - j) = 8 * (n - 1 - j) + 8 by omega, Nat.pow_add]
    · simp

theorem le_eq_leSum (F : Frame) (a n : Nat) : F.le a n = leSum F a n := by
  induction n generalizing a with
  | zero => rfl
  | succ n ih =>
    rw [le_succ, ih, leSum, leSum, Finset.sum_range_succ', Finset.mul_sum, Nat.add_comm]
    congr 1
    · refine Finset.sum_congr rfl fun j _ => ?_
      rw [show a + 1 + j = a + (j + 1) by omega, Nat.mul_succ, Nat.pow_add]
      ring
    · simp

/-! ## The bits of a little-endian read (20_memory.md R72) -/

/-- Bit `k` of `LE(a, n)` is bit `k mod 8` of byte `F[a + k div 8]`. -/
theorem testBit_le (F : Frame) {a n k : Nat} (hk : k < 8 * n) :
    (F.le a n).testBit k = (F.byte (a + k / 8)).getLsbD (k % 8) := by
  induction n generalizing a k with
  | zero => omega
  | succ n ih =>
    rw [le_succ, Nat.add_comm, show 256 = 2 ^ 8 from rfl, Nat.testBit_two_pow_mul_add _ (F.byte a).isLt]
    split
    · next hlow => rw [BitVec.testBit_toNat, Nat.div_eq_of_lt hlow, Nat.mod_eq_of_lt hlow, Nat.add_zero]
    · next hhigh => rw [ih (by omega), show a + 1 + (k - 8) / 8 = a + k / 8 by omega, show (k - 8) % 8 = k % 8 by omega]

theorem testBit_ltasInteger (F : Frame) {k : Nat} (hlo : 1 ≤ k) (hhi : k ≤ 240) :
    F.ltasInteger.testBit (k - 1) = sourceBit F k :=
  testBit_le F (n := 30) (by omega)

/-- The low bits of a number, added up. -/
theorem sum_testBit (x n : Nat) : (∑ k ∈ Finset.range n, if x.testBit k then 2 ^ k else 0) = x % 2 ^ n := by
  induction n with
  | zero => simp [Nat.mod_one]
  | succ n ih =>
    rw [Finset.sum_range_succ, ih, Nat.mod_pow_succ, Nat.testBit_eq_decide_div_mod_eq]
    rcases Nat.mod_two_eq_zero_or_one (x / 2 ^ n) with hbit | hbit <;> simp [hbit]

theorem lbits_eq_bitSum (F : Frame) {a b : Nat} (ha : 1 ≤ a) (hab : a ≤ b) (hb : b ≤ 240) : F.lbits a b = bitSum F a b := by
  rw [Frame.lbits, ← sum_testBit, bitSum]
  refine Finset.sum_congr rfl fun k hk => ?_
  have := Finset.mem_range.1 hk
  rw [Nat.testBit_shiftRight, ← testBit_ltasInteger F (k := a + k) (by omega) (by omega), show a + k - 1 = a - 1 + k by omega]

/-- Settles O31: the two sums by induction on the byte count, the source bits as bits of `L`, and a field as the sum of its bits. -/
theorem frameReadsAreTheirDefiningSums : Obligations.FrameReadsAreTheirDefiningSums := by
  unfold Obligations.FrameReadsAreTheirDefiningSums
  exact fun F => ⟨fun a n _ _ => be_eq_beSum F a n, fun a n _ _ => le_eq_leSum F a n, le_eq_leSum F 272 30,
    fun _ => testBit_ltasInteger F, fun _ _ => lbits_eq_bitSum F⟩

/-! ## The window a field is cut from (20_memory.md R73) -/

/-- A window from section byte `w`, inside the section, holds the section's bits from bit `8w` on. -/
theorem testBit_le_window (F : Frame) {w m k : Nat} (hk : k < 8 * m) (hm : w + m ≤ 30) :
    (F.le (272 + w) m).testBit k = F.ltasInteger.testBit (8 * w + k) := by
  rw [testBit_le F hk, Frame.ltasInteger, testBit_le F (n := 30) (by omega), show 272 + w + k / 8 = 272 + (8 * w + k) / 8 by omega,
    show k % 8 = (8 * w + k) % 8 by omega]

/-- Settles O32: bit by bit, the window and the whole section give the field the same source bits. -/
theorem everyCoveringWindowExtractsTheField : Obligations.EveryCoveringWindowExtractsTheField := by
  unfold Obligations.EveryCoveringWindowExtractsTheField
  intro F a b m ha hab _ hcover hinside
  rw [Nat.and_two_pow_sub_one_eq_mod, Frame.lbits]
  refine Nat.eq_of_testBit_eq fun i => ?_
  rw [Nat.testBit_mod_two_pow, Nat.testBit_mod_two_pow, Nat.testBit_shiftRight, Nat.testBit_shiftRight]
  by_cases hi : i < b - a + 1
  · rw [testBit_le_window F (by omega) hinside,
      show 8 * ((a - 1) / 8) + (a - 1 - 8 * ((a - 1) / 8) + i) = a - 1 + i by omega]
  · simp only [hi, decide_false, Bool.false_and]

/-! ## The header registers (20_memory.md R64; 43_sips_header.md R242, R245) -/

theorem be_one (F : Frame) (a : Nat) : F.be a 1 = (F.byte a).toNat := by
  rw [be_succ, be_zero, Nat.zero_mul, Nat.zero_add, Nat.add_zero]

/-- The number of `e` names a result register whose value is unsigned `BE(a, n)`. -/
def readsBytes (e : RegNumber × Nat × Nat) : Prop :=
  ∃ q : ResultReg, registerOf e.1 = some (.result q) ∧ ∀ F : Frame, q.value F = .unsigned (F.be e.2.1 e.2.2)

/-- Each row is its register's defining rule; only `TP_DQUAL`'s names the byte itself (43_sips_header.md R234). -/
theorem readsBytes_of_bigEndianRegister : ∀ e ∈ bigEndianRegisters, readsBytes e := by
  have hdqual : readsBytes (0x03D#12, 184, 1) := ⟨.tpDqual, rfl, fun F => congrArg RegValue.unsigned (be_one F 184).symm⟩
  simp only [bigEndianRegisters, List.forall_mem_append, List.forall_mem_cons, List.not_mem_nil, false_implies,
    implies_true, and_true, hdqual, true_and]
  and_intros <;> exact ⟨_, rfl, fun _ => rfl⟩

/-- In OK `RDREG` of such a number answers its bytes as a sum and changes nothing else. -/
theorem exec_rdreg_of_readsBytes {e : RegNumber × Nat × Nat} (he : readsBytes e) {s : State} {F : Frame}
    (hs : s.state = .ok) (hF : Memory.wholeWindow s.win = some F) :
    exec (.rdreg e.1) s = .next (s.respond (BitVec.ofNat 64 (beSum F e.2.1 e.2.2))) := by
  obtain ⟨q, hq, hvalue⟩ := he
  rw [exec_rdreg_of_record hq hs hF, ResultReg.response, hvalue, be_eq_beSum]
  rfl

/-- In OK `RDREG` of a register that holds a signed 32-bit word answers the sum of its bytes, sign-extended. -/
theorem exec_rdreg_of_signedWord {r : RegNumber} {q : ResultReg} {a : Nat} (hr : registerOf r = some (.result q)) {s : State}
    {F : Frame} (hvalue : q.value F = .signed (sext 32 (F.be a 4))) (hs : s.state = .ok)
    (hF : Memory.wholeWindow s.win = some F) :
    exec (.rdreg r) s = .next (s.respond
      (BitVec.ofInt 64 (if beSum F a 4 < 2 ^ 31 then (beSum F a 4 : Int) else (beSum F a 4 : Int) - 2 ^ 32))) := by
  rw [exec_rdreg_of_record hr hs hF, ResultReg.response, hvalue, be_eq_beSum]
  rfl

/-- Settles O33: the unsigned registers by their rows, `EI_ID` and `EI_PRIO` as signed words. -/
theorem headerRegistersReadBigEndian : Obligations.HeaderRegistersReadBigEndian := by
  unfold Obligations.HeaderRegistersReadBigEndian
  refine fun s F hs hF => ⟨fun e he => exec_rdreg_of_readsBytes (readsBytes_of_bigEndianRegister e he) hs hF, ?_⟩
  rw [List.forall_mem_cons, List.forall_mem_singleton]
  exact ⟨exec_rdreg_of_signedWord (q := .eiId) rfl rfl hs hF, exec_rdreg_of_signedWord (q := .eiPrio) rfl rfl hs hF⟩

end Sys2Proof.Proofs.FrameReads
end

section
/-! PROOFS. What writes the window (20_memory.md R60, R75). -/

namespace Sys2Proof.Proofs.WindowWrites

open Sys2Proof.Machine Sys2Proof.Proofs.Decoder Sys2Proof.Proofs.Effects Sys2Proof.Proofs.Invariant

/-- The only word of `PUSH b` (30_encoding.md R102, R108). -/
theorem decode_eq_push {w : CommandWord} {b : Byte} (h : decode w = .ok (.push b)) : w = 0x030000#24 ++ b := by
  cases decodesTo_of_decode h with
  | push hw =>
    apply BitVec.eq_of_toNat_eq
    rw [toNat_append_eq, BitVec.extractLsb'_toNat, Nat.shiftRight_zero, BitVec.toNat_ofNat]
    omega

/-- Settles O52: a wait and an illegal word keep the window, a hardware reset empties it, and of the commands only `PUSH` in FILL
shifts a byte in. -/
theorem onlyPushWritesTheWindow : Obligations.OnlyPushWritesTheWindow := by
  unfold Obligations.OnlyPushWritesTheWindow
  intro s t h
  cases stepEffect_of_step h with
  | waited _ => exact .inl rfl
  | hardReset _ => exact .inr (.inl Memory.read_empty)
  | illegal _ _ => exact .inl (raiseCmdError_win _ _ _)
  | command hp hi he =>
    rcases win_of_effect he with hsame | hempty | ⟨b, rfl, hs, hpush⟩
    · exact .inl hsame
    · exact .inr (.inl fun a => by rw [hempty, Memory.read_empty])
    · refine .inr (.inr ⟨hs, b, _, decode_eq_push hi ▸ hp, fun a _ => ?_⟩)
      rw [hpush, Memory.read_pushByte]

end Sys2Proof.Proofs.WindowWrites
end

section
/-! PROOFS. The encoder against the decoder (30_encoding.md R100 to R108).
The one idea: the word of a command is the number of its row's block with the operands as digits below it, so that encoding and
decoding are a sum and its quotients and remainders. -/

namespace Sys2Proof.Proofs.Encoding

open Sys2Proof.Machine Sys2Proof.Proofs.Decoder

/-! ## The byte counts of `NSEL` (R107) -/

theorem validByteCount_iff {n : Nat} : validByteCount n = true ↔ n = 1 ∨ n = 2 ∨ n = 4 ∨ n = 8 := by
  simp [validByteCount, or_assoc]

theorem byteCount_nselOf {n : Nat} (hn : validByteCount n = true) : byteCount (nselOf n) = n := by
  rcases validByteCount_iff.1 hn with rfl | rfl | rfl | rfl <;> rfl

theorem nselOf_byteCount : ∀ nsel : BitVec 2, nselOf (byteCount nsel) = nsel := by decide

theorem validByteCount_byteCount : ∀ nsel : BitVec 2, validByteCount (byteCount nsel) = true := by decide

/-! ## Words as numbers (R100 to R106) -/

/-- A field of a word, as a remainder of a quotient. -/
theorem toNat_field (w : CommandWord) (start len : Nat) :
    (w.extractLsb' start len).toNat = w.toNat / 2 ^ start % 2 ^ len := by
  rw [BitVec.extractLsb'_toNat, Nat.shiftRight_eq_div_pow]

theorem field_eq {w : CommandWord} {start len : Nat} {x : BitVec len} (h : w.toNat / 2 ^ start % 2 ^ len = x.toNat) :
    w.extractLsb' start len = x :=
  BitVec.eq_of_toNat_eq ((toNat_field w start len).trans h)

theorem toNat_encode (i : Instr) : (encode i).toNat = i.opcode.toNat * 2 ^ 24 + i.operandField.toNat :=
  toNat_append_eq _ _

theorem toNat_encode_rdreg (r : RegNumber) : (encode (.rdreg r)).toNat = 0x10000 * 2 ^ 12 + r.toNat := by
  rw [toNat_encode, Instr.operandField, toNat_append_eq]
  simp [Instr.opcode, opcRdreg]

theorem toNat_encode_rdfrm (off : FrameOffset) : (encode (.rdfrm off)).toNat = 0x088000 * 2 ^ 9 + off.toNat := by
  rw [toNat_encode, Instr.operandField, toNat_append_eq]
  simp [Instr.opcode, opcRdfrm]

theorem toNat_encode_extle (start : BitVec 8) (width : BitVec 6) :
    (encode (.extle start width)).toNat = (0x120000 + width.toNat) * 2 ^ 8 + start.toNat := by
  rw [toNat_encode, Instr.operandField, toNat_append_eq, toNat_append_eq]
  simp only [Instr.opcode, opcExtle, BitVec.toNat_ofNat]
  omega

theorem toNat_encode_rdbe (off : FrameOffset) (n : Nat) :
    (encode (.rdbe off n)).toNat = (0x098000 + (nselOf n).toNat) * 2 ^ 9 + off.toNat := by
  rw [toNat_encode, Instr.operandField, toNat_append_eq, toNat_append_eq]
  simp only [Instr.opcode, opcRdbe, BitVec.toNat_ofNat]
  omega

/-! ## Decoding an encoding -/

theorem decode_encode_rdreg (r : RegNumber) : decode (encode (.rdreg r)) = .ok (.rdreg r) := by
  have hword := toNat_encode_rdreg r
  have hr := r.isLt
  have hfield : (encode (.rdreg r)).extractLsb' 0 12 = r := field_eq (by omega)
  rw [decode_of_decodesTo (.rdreg (by omega)), hfield]

theorem decode_encode_rdfrm (off : FrameOffset) : decode (encode (.rdfrm off)) = .ok (.rdfrm off) := by
  have hword := toNat_encode_rdfrm off
  have hoff := off.isLt
  have hfield : (encode (.rdfrm off)).extractLsb' 0 9 = off := field_eq (by omega)
  rw [decode_of_decodesTo (.rdfrm (by omega)), hfield]

theorem decode_encode_extle (start : BitVec 8) (width : BitVec 6) :
    decode (encode (.extle start width)) = .ok (.extle start width) := by
  have hword := toNat_encode_extle start width
  have hstart := start.isLt
  have hwidth := width.isLt
  have hfield : (encode (.extle start width)).extractLsb' 0 8 = start := field_eq (by omega)
  have hfield' : (encode (.extle start width)).extractLsb' 8 6 = width := field_eq (by omega)
  rw [decode_of_decodesTo (.extle (by omega)), hfield, hfield']

theorem decode_encode_rdbe (off : FrameOffset) {n : Nat} (hn : validByteCount n = true) :
    decode (encode (.rdbe off n)) = .ok (.rdbe off n) := by
  have hword := toNat_encode_rdbe off n
  have hoff := off.isLt
  have hnsel := (nselOf n).isLt
  have hfield : (encode (.rdbe off n)).extractLsb' 0 9 = off := field_eq (by omega)
  have hfield' : (encode (.rdbe off n)).extractLsb' 9 2 = nselOf n := field_eq (by omega)
  rw [decode_of_decodesTo (.rdbe (by omega)), hfield, hfield', byteCount_nselOf hn]

/-- Settles O1: a command without operands has one fixed word, and an operand is read back from its digits of the word. -/
theorem decodeOfEncodeIsTheCommand : Obligations.DecodeOfEncodeIsTheCommand := by
  unfold Obligations.DecodeOfEncodeIsTheCommand
  intro i hi
  cases i with
  | nop => rfl
  | reset => rfl
  | beginBuffer => exact decode_encode_beginBuffer
  | push b => exact decode_encode_push b
  | endBuffer => rfl
  | rdreg r => exact decode_encode_rdreg r
  | rdfrm off => exact decode_encode_rdfrm off
  | extle start width => exact decode_encode_extle start width
  | rdbe off n => exact decode_encode_rdbe off hi

/-! ## Encoding what was decoded -/

theorem wellFormed_of_decodesTo {w : CommandWord} {i : Instr} (h : DecodesTo w i) : i.wellFormed = true := by
  cases h with
  | rdbe _ => exact validByteCount_byteCount _
  | _ => rfl

/-- The block number and the operands of a word that decodes add up to the word. -/
theorem encode_of_decodesTo {w : CommandWord} {i : Instr} (h : DecodesTo w i) : encode i = w := by
  apply BitVec.eq_of_toNat_eq
  cases h with
  | nop hw | reset hw | beginBuffer hw | endBuffer hw => exact hw.symm
  | push hw => rw [toNat_encode_push, toNat_field]; omega
  | rdreg hw => rw [toNat_encode_rdreg, toNat_field]; omega
  | rdfrm hw => rw [toNat_encode_rdfrm, toNat_field]; omega
  | extle hw => rw [toNat_encode_extle, toNat_field, toNat_field]; omega
  | rdbe hw => rw [toNat_encode_rdbe, nselOf_byteCount, toNat_field, toNat_field]; omega

/-- Settles O2: by the nine blocks of words that decode. -/
theorem encodeOfDecodeIsTheWord : Obligations.EncodeOfDecodeIsTheWord := by
  unfold Obligations.EncodeOfDecodeIsTheWord
  intro w i h
  have hblock : DecodesTo w i := decodesTo_of_decode h
  exact ⟨wellFormed_of_decodesTo hblock, encode_of_decodesTo hblock⟩

/-! ## The rows of the map, and sample words -/

/-- Settles O3: whichever row selects a word, it is the row that the decoder's search finds. -/
theorem opcodeRowsSelectDisjointWords : Obligations.OpcodeRowsSelectDisjointWords := by
  unfold Obligations.OpcodeRowsSelectDisjointWords
  intro w r₁ r₂ hr₁ hr₂ h₁ h₂
  have hfind₁ := find?_selects opcodeTable_pairwise_disagree hr₁ h₁
  have hfind₂ := find?_selects opcodeTable_pairwise_disagree hr₂ h₂
  exact congrArg OpcodeRow.mnemonic (Option.some.inj (hfind₁.symm.trans hfind₂))

/-- Settles O5: the decoder is run on each word. -/
theorem sampleWordsDecodeToTheirCommands : Obligations.SampleWordsDecodeToTheirCommands :=
  ⟨rfl, rfl, rfl, rfl, rfl, rfl, rfl, rfl, rfl, rfl, rfl⟩

end Sys2Proof.Proofs.Encoding
end

section
/-! PROOFS. Illegal words and the responses of a command word (30_encoding.md R109, R112). -/

namespace Sys2Proof.Proofs.Responses

open Sys2Proof.Machine Sys2Proof.Proofs.Decoder Sys2Proof.Proofs.Effects Sys2Proof.Proofs.Encoding

/-! ## The legal words (R109) -/

/-- Every word of the nine ranges decodes; `legalWord_of_decode` is the converse. -/
theorem decodesTo_of_legalWord {w : CommandWord} (h : legalWord w) : ∃ i, DecodesTo w i := by
  rcases h with h | h | h | h | h | h | h | h | h
  · exact ⟨_, .nop h⟩
  · exact ⟨_, .reset h⟩
  · exact ⟨_, .beginBuffer h⟩
  · exact ⟨_, .push (by omega)⟩
  · exact ⟨_, .endBuffer h⟩
  · exact ⟨_, .rdreg (by omega)⟩
  · exact ⟨_, .rdfrm (by omega)⟩
  · exact ⟨_, .extle (by omega)⟩
  · exact ⟨_, .rdbe (by omega)⟩

theorem legalWord_iff (w : CommandWord) : legalWord w ↔ ∃ i, decode w = .ok i := by
  constructor
  · intro h
    obtain ⟨i, hi⟩ := decodesTo_of_legalWord h
    exact ⟨i, decode_of_decodesTo hi⟩
  · rintro ⟨i, hi⟩
    exact legalWord_of_decode hi

theorem runWord_of_decode {w : CommandWord} {i : Instr} (h : decode w = .ok i) (s : State) : runWord w s = exec i s := by
  simp only [runWord, h]

/-- An illegal word is a command error in every state. -/
theorem runWord_of_not_legalWord {w : CommandWord} (h : ¬ legalWord w) (s : State) :
    runWord w s = .next (raiseCmdError .illegal (opcodeOf w) s) := by
  cases hd : decode w with
  | ok i => exact absurd (legalWord_of_decode hd) h
  | error e => simp only [runWord, hd]

/-! ## The opcodes that return a response (R112) -/

theorem opcReturnsResponse_iff (opc : Opcode) : opcReturnsResponse opc = true ↔ readOpcode opc := by
  simp only [opcReturnsResponse, opcRdreg, opcRdfrm, opcExtle, opcRdbe, List.contains_iff_mem, List.mem_cons, List.not_mem_nil,
    or_false, ← BitVec.toNat_inj, BitVec.toNat_ofNat, readOpcode]
  omega

theorem raiseCmdError_of_readOpcode (c : CmdCause) {opc : Opcode} (h : readOpcode opc) (s : State) :
    raiseCmdError c opc s = { s with cmdErr := true, resps := s.resps ++ [0#64] } := by
  rw [raiseCmdError_eq, if_pos ((opcReturnsResponse_iff opc).2 h)]

theorem raiseCmdError_of_not_readOpcode (c : CmdCause) {opc : Opcode} (h : ¬ readOpcode opc) (s : State) :
    raiseCmdError c opc s = { s with cmdErr := true } := by
  rw [raiseCmdError_eq, if_neg (mt (opcReturnsResponse_iff opc).1 h)]

/-- Settles O4: the words that decode are the nine ranges, and any other word is a command error of its opcode. -/
theorem illegalWordsOnlyRaiseCommandErrors : Obligations.IllegalWordsOnlyRaiseCommandErrors := by
  unfold Obligations.IllegalWordsOnlyRaiseCommandErrors
  refine ⟨legalWord_iff, fun s w es hp hw => ⟨fun hread => ?_, fun hread => ?_⟩⟩
  · rw [step_of_command hp, runWord_of_not_legalWord hw, raiseCmdError_of_readOpcode _ hread]
  · rw [step_of_command hp, runWord_of_not_legalWord hw, raiseCmdError_of_not_readOpcode _ hread]

/-! ## The responses of a command -/

/-- The opcodes that return a response are those of the four readback commands. -/
theorem opcReturnsResponse_opcode (i : Instr) : opcReturnsResponse i.opcode = isReadback i := by
  cases i <;> rfl

/-- The opcode field of a word that decodes is its command's. -/
theorem opcodeOf_of_decode {w : CommandWord} {i : Instr} (h : decode w = .ok i) : opcodeOf w = i.opcode := by
  obtain ⟨-, rfl⟩ := encodeOfDecodeIsTheWord w i h
  exact (Laws.EncodingFields.split_word i.opcode i.operandField).1

theorem readOpcode_of_decode {w : CommandWord} {i : Instr} (h : decode w = .ok i) :
    readOpcode (opcodeOf w) ↔ isReadback i = true := by
  rw [← opcReturnsResponse_iff, opcodeOf_of_decode h, opcReturnsResponse_opcode]

/-- A readback command returns one response, and 0 where its check fails. -/
theorem resps_of_readback {i : Instr} {s t : State} (h : Effect s i t) (hi : isReadback i = true) :
    ∃ v : Response, t.resps = s.resps ++ [v] ∧ (commandErrorCause i s ≠ none → v = 0#64) := by
  cases h with
  | nop | reset | beginBuffer | push _ _ | tooShort _ _ | decoded _ _ _ _ => cases hi
  | answered v _ hc => exact ⟨v, rfl, fun herr => absurd hc herr⟩
  | refused cause _ =>
    refine ⟨0#64, ?_, fun _ => rfl⟩
    rw [raiseCmdError_resps, opcReturnsResponse_opcode, if_pos hi]

/-- A command that is no readback returns no response. -/
theorem resps_of_not_readback {i : Instr} {s t : State} (h : Effect s i t) (hi : ¬ isReadback i = true) :
    t.resps = s.resps := by
  cases h with
  | nop | reset | beginBuffer | push _ _ | tooShort _ _ => rfl
  | decoded F _ _ _ => exact validateAndDecode_resps F s
  | answered v hread _ => exact absurd hread hi
  | refused cause _ => rw [raiseCmdError_resps, opcReturnsResponse_opcode, if_neg hi]

/-- A command word returns a response exactly when its opcode says so, and 0 on a command error. -/
theorem resps_of_runWord {w : CommandWord} {s t : State} (h : runWord w s = .next t) :
    (readOpcode (opcodeOf w) → ∃ v : Response, t.resps = s.resps ++ [v] ∧
      (¬ legalWord w ∨ (∃ i, decode w = .ok i ∧ commandErrorCause i s ≠ none) → v = 0#64)) ∧
    (¬ readOpcode (opcodeOf w) → t.resps = s.resps) := by
  by_cases hw : legalWord w
  · obtain ⟨i, hi⟩ := (legalWord_iff w).1 hw
    have heffect : Effect s i t := effect_of_exec ((runWord_of_decode hi s).symm.trans h)
    rw [readOpcode_of_decode hi]
    refine ⟨fun hread => ?_, resps_of_not_readback heffect⟩
    obtain ⟨v, hv, hzero⟩ := resps_of_readback heffect hread
    refine ⟨v, hv, ?_⟩
    rintro (hnot | ⟨j, hj, hc⟩)
    · exact absurd hw hnot
    · obtain rfl := Except.ok.inj (hj.symm.trans hi)
      exact hzero hc
  · obtain rfl := Host.Outcome.next.inj ((runWord_of_not_legalWord hw s).symm.trans h)
    refine ⟨fun hread => ⟨0#64, ?_, fun _ => rfl⟩, fun hread => ?_⟩
    · rw [raiseCmdError_of_readOpcode _ hread]
    · rw [raiseCmdError_of_not_readOpcode _ hread]

/-- Settles O50: a step on a command word is a run of the word. -/
theorem oneResponsePerReadWord : Obligations.OneResponsePerReadWord := by
  unfold Obligations.OneResponsePerReadWord
  intro s t w es hp h
  exact resps_of_runWord (s := { s with port := es }) ((step_of_command hp).symm.trans h)

end Sys2Proof.Proofs.Responses
end

section
/-! PROOFS. The assembler's lines (30_encoding.md R113, R114).
The one idea: an operand in its field's range lies below the bits that the row fixes, so that the `or` of the assembler's table is
the sum that the encoder makes. -/

namespace Sys2Proof.Proofs.Assembler

open Sys2Proof.Machine Sys2Proof.Proofs.Decoder Sys2Proof.Proofs.Encoding

/-! ## The words of the assembler's table (R113) -/

/-- An `or` with an operand that fits below the word's lowest bits is a sum. -/
theorem toNat_or_ofNat {w : CommandWord} {k c x : Nat} (hk : k ≤ 32) (hw : w.toNat = c * 2 ^ k) (hx : x < 2 ^ k) :
    (w ||| BitVec.ofNat 32 x).toNat = c * 2 ^ k + x := by
  have hx32 : x < 2 ^ 32 := Nat.lt_of_lt_of_le hx (Nat.pow_le_pow_right Nat.two_pos hk)
  rw [BitVec.toNat_or, BitVec.toNat_ofNat, Nat.mod_eq_of_lt hx32, hw, Nat.mul_comm, Nat.two_pow_add_eq_or_of_lt hx]

theorem ofNat_shiftLeft (x k : Nat) : BitVec.ofNat 32 x <<< k = BitVec.ofNat 32 (x * 2 ^ k) := by
  apply BitVec.eq_of_toNat_eq
  rw [BitVec.toNat_shiftLeft, BitVec.toNat_ofNat, BitVec.toNat_ofNat, Nat.shiftLeft_eq, Nat.mod_mul_mod]

theorem encode_push_ofNat {b : Nat} (hb : b ≤ 255) :
    encode (.push (BitVec.ofNat 8 b)) = 0x03000000#32 ||| BitVec.ofNat 32 b := by
  apply BitVec.eq_of_toNat_eq
  rw [toNat_encode_push, toNat_or_ofNat (k := 8) (c := 0x030000) (by decide) rfl (by omega), BitVec.toNat_ofNat]
  omega

theorem encode_rdreg_ofNat {r : Nat} (hr : r ≤ 0xFFF) :
    encode (.rdreg (BitVec.ofNat 12 r)) = 0x10000000#32 ||| BitVec.ofNat 32 r := by
  apply BitVec.eq_of_toNat_eq
  rw [toNat_encode_rdreg, toNat_or_ofNat (k := 12) (c := 0x10000) (by decide) rfl (by omega), BitVec.toNat_ofNat]
  omega

theorem encode_rdfrm_ofNat {off : Nat} (hoff : off ≤ 511) :
    encode (.rdfrm (BitVec.ofNat 9 off)) = 0x11000000#32 ||| BitVec.ofNat 32 off := by
  apply BitVec.eq_of_toNat_eq
  rw [toNat_encode_rdfrm, toNat_or_ofNat (k := 9) (c := 0x088000) (by decide) rfl (by omega), BitVec.toNat_ofNat]
  omega

theorem encode_extle_ofNat {start width : Nat} (hstart : start ≤ 255) (hwidth : width ≤ 63) :
    encode (.extle (BitVec.ofNat 8 start) (BitVec.ofNat 6 width)) =
      0x12000000#32 ||| (BitVec.ofNat 32 width <<< 8) ||| BitVec.ofNat 32 start := by
  have hhigh : (0x12000000#32 ||| (BitVec.ofNat 32 width <<< 8)).toNat = (0x120000 + width) * 2 ^ 8 := by
    rw [ofNat_shiftLeft, toNat_or_ofNat (k := 14) (c := 0x04800) (by decide) rfl (by omega)]
    omega
  apply BitVec.eq_of_toNat_eq
  rw [toNat_encode_extle, toNat_or_ofNat (by decide) hhigh (by omega), BitVec.toNat_ofNat, BitVec.toNat_ofNat]
  omega

/-- `NSEL` is the logarithm of the byte count. -/
theorem toNat_nselOf {n : Nat} (hn : n = 1 ∨ n = 2 ∨ n = 4 ∨ n = 8) : (nselOf n).toNat = Nat.log2 n := by
  rcases hn with rfl | rfl | rfl | rfl <;> rfl

theorem encode_rdbe_ofNat {off n : Nat} (hoff : off ≤ 511) (hn : n = 1 ∨ n = 2 ∨ n = 4 ∨ n = 8) :
    encode (.rdbe (BitVec.ofNat 9 off) n) =
      0x13000000#32 ||| (BitVec.ofNat 32 (Nat.log2 n) <<< 9) ||| BitVec.ofNat 32 off := by
  have hnsel := (nselOf n).isLt
  have hhigh : (0x13000000#32 ||| (BitVec.ofNat 32 (nselOf n).toNat <<< 9)).toNat =
      (0x098000 + (nselOf n).toNat) * 2 ^ 9 := by
    rw [ofNat_shiftLeft, toNat_or_ofNat (k := 11) (c := 0x026000) (by decide) rfl (by omega)]
    omega
  apply BitVec.eq_of_toNat_eq
  rw [← toNat_nselOf hn, toNat_encode_rdbe, toNat_or_ofNat (by decide) hhigh (by omega), BitVec.toNat_ofNat]
  omega

/-- A line whose operands fit gives its word, and any other is refused. -/
theorem encodeIf_eq {fits : Bool} {P : Prop} [Decidable P] {i : Instr} {w : CommandWord} (hfits : fits = true ↔ P)
    (hword : P → encode i = w) : encodeIf fits i = if P then some [w] else none := by
  by_cases hP : P
  · rw [encodeIf, if_pos (hfits.2 hP), if_pos hP, hword hP]
  · rw [encodeIf, if_neg (mt hfits.1 hP), if_neg hP]

theorem asmPush_eq (b : Nat) : asmPush b = if b ≤ 255 then some [0x03000000#32 ||| BitVec.ofNat 32 b] else none :=
  encodeIf_eq decide_eq_true_iff encode_push_ofNat

/-- Settles O6: each line's word by the `or` of its operands, under the check that they fit. -/
theorem assemblerEmitsTheWordOfALine : Obligations.AssemblerEmitsTheWordOfALine := by
  unfold Obligations.AssemblerEmitsTheWordOfALine
  refine ⟨asmPush_eq, fun r => ?_, fun off => ?_, fun start width => ?_, fun off n => ?_⟩
  · exact encodeIf_eq decide_eq_true_iff encode_rdreg_ofNat
  · exact encodeIf_eq decide_eq_true_iff encode_rdfrm_ofNat
  · refine encodeIf_eq ?_ fun ⟨hstart, hwidth⟩ => encode_extle_ofNat hstart hwidth
    simp only [Bool.and_eq_true, decide_eq_true_eq]
  · refine encodeIf_eq ?_ fun ⟨hoff, hn⟩ => encode_rdbe_ofNat hoff hn
    simp only [Bool.and_eq_true, decide_eq_true_eq, validByteCount_iff]

/-! ## The pseudo-instructions (R114) -/

/-- On bytes, `PUSHS` is one `PUSH` word per byte, in order. -/
theorem asmPushS_eq {bs : List Nat} (hbs : ∀ b ∈ bs, b ≤ 255) :
    asmPushS bs = some (bs.map (fun b => 0x03000000#32 ||| BitVec.ofNat 32 b)) := by
  induction bs with
  | nil => rfl
  | cons b bs ih =>
    obtain ⟨hb, hrest⟩ := List.forall_mem_cons.1 hbs
    rw [asmPushS, asmPush_eq, if_pos hb, ih hrest]
    rfl

theorem beBytesOf_eq (v n : Nat) :
    beBytesOf v n = (List.range n).map (fun j => (v >>> (8 * (n - 1 - j))) &&& 0xFF) := by
  induction n with
  | zero => rfl
  | succ n ih =>
    rw [beBytesOf, ih, List.range_succ_eq_map, List.map_cons, List.map_map]
    congr 1
    refine List.map_congr_left fun j _ => ?_
    rw [Function.comp_apply, show n + 1 - 1 - j.succ = n - 1 - j by omega]

/-- Each of the bytes is masked to 8 bits. -/
theorem le_of_mem_beBytesOf {v n b : Nat} (hb : b ∈ beBytesOf v n) : b ≤ 255 := by
  rw [beBytesOf_eq] at hb
  obtain ⟨j, -, rfl⟩ := List.mem_map.1 hb
  exact Nat.and_le_right

/-- Settles O7: every pseudo-instruction is `PUSHS` on its bytes. -/
theorem pseudoInstructionsExpandAsGiven : Obligations.PseudoInstructionsExpandAsGiven := by
  unfold Obligations.PseudoInstructionsExpandAsGiven
  refine ⟨fun b k hb => ?_, fun bs hbs => ⟨asmPushS_eq hbs, ?_⟩, fun v n => ?_⟩
  · have hbytes : ∀ c ∈ List.replicate k b, c ≤ 255 := fun c hc => (List.eq_of_mem_replicate hc).trans_le hb
    rw [assembleLine, asmPushS_eq hbytes, List.map_replicate]
  · rw [assembleLine, asmPushS_eq hbs]
    rfl
  · rw [assembleLine, asmPushS_eq fun b hb => le_of_mem_beBytesOf hb, beBytesOf_eq, List.map_map]
    rfl

end Sys2Proof.Proofs.Assembler
end

section
/-! PROOFS. The five buffer control commands (40_control.md R130 to R140): the effect of each where it is legal, the command error
elsewhere, and the words of its opcode. -/

namespace Sys2Proof.Proofs.Control

open Sys2Proof.Machine Sys2Proof.Proofs.Decoder Sys2Proof.Proofs.Effects Sys2Proof.Proofs.Elements Sys2Proof.Proofs.FrameReads
  Sys2Proof.Proofs.Encoding Sys2Proof.Proofs.Registers Sys2Proof.Proofs.Responses Sys2Proof.Proofs.WindowWrites

/-- Settles O12: the next event is the word, and the word is its decoded command. -/
theorem stepRunsTheDecodedCommand : Obligations.StepRunsTheDecodedCommand := by
  unfold Obligations.StepRunsTheDecodedCommand
  intro s w es i hp hi
  rw [step_of_command hp, runWord_of_decode hi]

/-! ## The words of an opcode (30_encoding.md R100 to R102, R109) -/

/-- A well-formed command has exactly one word. -/
theorem decode_iff_eq_encode {i : Instr} (hi : i.wellFormed = true) (w : CommandWord) : decode w = .ok i ↔ w = encode i := by
  constructor
  · intro h
    exact (encodeOfDecodeIsTheWord w i h).2.symm
  · rintro rfl
    exact decodeOfEncodeIsTheCommand i hi

theorem encode_push (b : Byte) : encode (.push b) = 0x030000#24 ++ b :=
  decode_eq_push (decode_encode_push b)

theorem toNat_opcodeOf (w : CommandWord) : (opcodeOf w).toNat = w.toNat / 2 ^ 24 := by
  have hw := w.isLt
  rw [opcodeOf, toNat_field]
  omega

/-- An illegal word with a control opcode only sets `CMDERR`. -/
theorem runWord_of_illegalControl {w : CommandWord} (hw : ¬ legalWord w) (hopc : (opcodeOf w).toNat ≤ 4) (s : State) :
    runWord w s = .next { s with cmdErr := true } := by
  have hread : ¬ readOpcode (opcodeOf w) := by
    unfold readOpcode
    omega
  rw [runWord_of_not_legalWord hw, raiseCmdError_of_not_readOpcode _ hread]

/-- `NOP`, `RESET`, `BEGIN` and `END` have no operand: any other word of their opcodes is illegal. -/
theorem runWord_of_operandBits {w : CommandWord} {opc : Opcode} (hopc : opc.toNat ≤ 4) (hpush : opc ≠ opcPush)
    (hw : opcodeOf w = opc) (hne : w ≠ opc ++ 0#24) (s : State) : runWord w s = .next { s with cmdErr := true } := by
  subst hw
  refine runWord_of_illegalControl ?_ hopc s
  rw [ne_eq, ← BitVec.toNat_inj] at hpush hne
  rw [toNat_append_eq, toNat_opcodeOf] at hne
  rw [toNat_opcodeOf] at hopc hpush
  simp only [BitVec.toNat_ofNat, opcPush] at hne hpush
  unfold legalWord
  omega

/-- `PUSH` has an operand of 8 bits: a word of its opcode with a bit set above them is illegal. -/
theorem runWord_of_pushReservedBits {w : CommandWord} (hw : opcodeOf w = opcPush) (hne : w.extractLsb' 8 16 ≠ 0#16) (s : State) :
    runWord w s = .next { s with cmdErr := true } := by
  have hopc : w.toNat / 2 ^ 24 = 3 := by rw [← toNat_opcodeOf, hw]; rfl
  rw [ne_eq, ← BitVec.toNat_inj, toNat_field] at hne
  simp only [BitVec.toNat_ofNat] at hne
  refine runWord_of_illegalControl ?_ (by rw [hw]; decide) s
  unfold legalWord
  omega

/-! ## What cannot be read, and what is not legal -/

/-- No result register is readable outside OK (10_state.md R31). -/
theorem resultRegister_of_ne_ok {s : State} (hs : s.state ≠ .ok) (q : ResultReg) : s.resultRegister q = none := if_neg hs

/-- A command other than a read whose check fails only sets `CMDERR`. -/
theorem exec_of_failedCheck {i : Instr} {s : State} (hi : isReadback i = false) (h : commandErrorCause i s ≠ none) :
    exec i s = .next { s with cmdErr := true } := by
  obtain ⟨cause, he⟩ := exec_of_commandError h
  rw [he, raiseCmdError_eq, opcReturnsResponse_opcode, hi]
  rfl

/-- `PUSH` needs FILL (40_control.md R131). -/
theorem exec_push_of_ne_fill {s : State} (b : Byte) (hs : s.state ≠ .fill) : exec (.push b) s = .next { s with cmdErr := true } :=
  exec_of_failedCheck rfl (mt commandErrorCause_push.1 (mt requireFill_eq_none.1 hs))

/-- `END` needs FILL (40_control.md R131). -/
theorem exec_end_of_ne_fill {s : State} (hs : s.state ≠ .fill) : exec .endBuffer s = .next { s with cmdErr := true } :=
  exec_of_failedCheck rfl (mt commandErrorCause_endBuffer.1 (mt requireFill_eq_none.1 hs))

/-! ## `NOP`, `RESET` and `BEGIN` -/

/-- Settles O14: the meaning of `NOP` is the same state, and its one word is zero. -/
theorem nopHasNoEffect : Obligations.NopHasNoEffect := by
  unfold Obligations.NopHasNoEffect
  intro s
  exact ⟨rfl, decode_iff_eq_encode rfl, fun w hw hne => runWord_of_operandBits (by decide) (by decide) hw hne s⟩

/-- `STATUS` reads as zero after a reset (70_reset_and_hazards.md R351). -/
theorem statusWord_resetElements (s : State) : (resetElements s).statusWord = 0#64 :=
  BitVec.eq_of_toNat_eq (toNat_statusWord (resetElements s))

/-- Settles O9: both resets are the reset of the elements, and every effect of another command keeps `CMDERR` set. -/
theorem resetCommandClearsEveryElement : Obligations.ResetCommandClearsEveryElement := by
  unfold Obligations.ResetCommandClearsEveryElement
  intro s
  refine ⟨⟨resetElements s, rfl, rfl, rfl, rfl, rfl, rfl, rfl, Memory.read_nil, statusWord_resetElements s,
    resultRegister_of_ne_ok nofun⟩, fun es a => step_of_hardReset rfl, fun i t h hs ht => ?_, decode_iff_eq_encode rfl,
    fun w hw hne => runWord_of_operandBits (by decide) (by decide) hw hne s⟩
  by_contra hi
  exact Bool.false_ne_true (ht.symm.trans (effect_keeps_cmdErr (effect_of_exec h) hi hs))

/-- Settles O15: the meaning of `BEGIN` is the opening of a buffer. -/
theorem beginOpensAnEmptyBuffer : Obligations.BeginOpensAnEmptyBuffer := by
  unfold Obligations.BeginOpensAnEmptyBuffer
  intro s
  exact ⟨⟨openBuffer s, rfl, rfl, rfl, rfl, rfl, rfl, Memory.read_nil, rfl, rfl, rfl, resultRegister_of_ne_ok nofun⟩,
    decode_iff_eq_encode rfl, fun w hw hne => runWord_of_operandBits (by decide) (by decide) hw hne s⟩

/-! ## `PUSH` -/

/-- The counter stays at its maximum (10_state.md R25). -/
theorem countUp_max : countUp 0xFFFFFFFF#32 = 0xFFFFFFFF#32 := by decide

/-- The counter goes up by one below its maximum (10_state.md R25). -/
theorem toNat_countUp_of_ne_max {c : BitVec 32} (hc : c ≠ 0xFFFFFFFF#32) : (countUp c).toNat = c.toNat + 1 := by
  have hlt := c.isLt
  rw [ne_eq, ← BitVec.toNat_inj] at hc
  simp only [BitVec.toNat_ofNat] at hc
  rw [countUp_toNat]
  omega

/-- Settles O16: the meaning of `PUSH` in FILL is the shift of its byte into the window and the count. -/
theorem pushShiftsTheByteIn : Obligations.PushShiftsTheByteIn := by
  unfold Obligations.PushShiftsTheByteIn
  intro s b
  refine ⟨fun hs => ⟨shiftIn b s, exec_push_of_fill b hs, rfl, fun a ha => ?_, ?_, fun hw => Memory.wf_pushByte hw b,
    fun hc => ?_, fun hc => toNat_countUp_of_ne_max hc⟩, exec_push_of_ne_fill b, fun w c => ?_,
    fun w hw hne => runWord_of_pushReservedBits hw hne s⟩
  · rw [shiftIn_win, Memory.read_pushByte, if_neg ha.ne]
  · rw [shiftIn_win, Memory.read_pushByte, if_pos rfl]
  · rw [shiftIn_cnt, hc, countUp_max]
  · rw [decode_iff_eq_encode rfl, encode_push]

/-! ## `END` -/

/-- The two accepted sync values (00_scope.md R8). -/
theorem syncValid_iff (v : Nat) : syncValid v = true ↔ v = 0x5858 ∨ v = 0x58A0 := by
  simp only [syncValid, Bool.or_eq_true, beq_iff_eq]

/-- The sync value is the frame's last two bytes, the first more significant (40_control.md R138). -/
theorem be_sync (F : Frame) : F.be 300 2 = 256 * (F.byte 300).toNat + (F.byte 301).toNat := by
  rw [be_succ, be_one, Nat.mul_comm]

/-- Settles O17: the length decides first, then the sync value of the frame. -/
theorem endReportsExactlyOneOutcome : Obligations.EndReportsExactlyOneOutcome := by
  unfold Obligations.EndReportsExactlyOneOutcome
  intro s
  refine ⟨fun hs hc => exec_end_of_short hs hc, fun F hs hc hF v hv => ?_, exec_end_of_ne_fill, decode_iff_eq_encode rfl,
    fun w hw hne => runWord_of_operandBits (by decide) (by decide) hw hne s⟩
  rw [exec_end_of_whole hs hc hF, validateAndDecode_eq, be_sync, ← hv]
  constructor
  · intro hA hB
    rw [if_neg (mt (syncValid_iff v).1 (not_or_intro hA hB))]
    rfl
  · intro hvalid
    rw [if_pos ((syncValid_iff v).2 hvalid)]
    rfl

end Sys2Proof.Proofs.Control
end

section
/-! PROOFS. Whole buffers: `BEGIN`, any bytes pushed, `END` (40_control.md R136, R142, R143; 10_state.md R24).
The one idea: while a buffer fills, the window holds the trailing 302 bytes of what was pushed, and `END` looks at nothing but the
window and whether 302 bytes were pushed; so buffers with the same trailing bytes have the same outcome. -/

namespace Sys2Proof.Proofs.Buffers

open Sys2Proof.Machine Sys2Proof.Proofs.Decoder Sys2Proof.Proofs.Effects Sys2Proof.Proofs.Invariant Sys2Proof.Proofs.Elements
  Sys2Proof.Proofs.Encoding Sys2Proof.Proofs.Responses

/-! ## The trailing bytes of a buffer -/

/-- The byte of `p` that belongs at window address `i`, if `p` reaches that far back (40_control.md R136). -/
def trailingByte (p : List Byte) (i : Nat) : Option Byte := if 302 ≤ p.length + i then p[p.length + i - 302]? else none

theorem trailingByte_nil {i : Nat} (hi : i < 302) : trailingByte [] i = none := if_neg (by simpa using hi)

/-- One more byte takes the last address and moves the others down by one, as a shift-in does. -/
theorem trailingByte_snoc (p : List Byte) (b : Byte) {i : Nat} (hi : i < 302) :
    trailingByte (p ++ [b]) i = if i = 301 then some b else trailingByte p (i + 1) := by
  unfold trailingByte
  rw [List.length_append, List.length_singleton, show p.length + 1 + i = p.length + (i + 1) by omega]
  by_cases hlast : i = 301
  · have hindex : p.length + (i + 1) - 302 = p.length := by omega
    rw [if_pos hlast, if_pos (by omega), hindex, List.getElem?_concat_length]
  · rw [if_neg hlast]
    by_cases hlong : 302 ≤ p.length + (i + 1)
    · rw [if_pos hlong, if_pos hlong, List.getElem?_append_left (by omega)]
    · rw [if_neg hlong, if_neg hlong]

/-- Only the last 302 bytes are trailing bytes. -/
theorem trailingByte_append (X : List Byte) {G : List Byte} (hG : G.length = 302) (i : Nat) :
    trailingByte (X ++ G) i = trailingByte G i := by
  have hindex : X.length + G.length + i - 302 - X.length = G.length + i - 302 := by omega
  unfold trailingByte
  rw [List.length_append, if_pos (by omega), if_pos (by omega), List.getElem?_append_right (by omega), hindex]

/-! ## The state of a buffer being filled -/

/-- The open buffer holds the bytes of `p`: the loop invariant of the `PUSH`es. -/
structure HoldsBuffer (p : List Byte) (s : State) : Prop where
  state_eq : s.state = .fill
  inv : s.Inv
  read_eq : ∀ i < 302, Memory.read s.win i = trailingByte p i
  cnt_eq : s.cnt.toNat = min p.length 0xFFFFFFFF

theorem holdsBuffer_openBuffer (s : State) : HoldsBuffer [] (openBuffer s) where
  state_eq := rfl
  inv := inv_openBuffer s
  read_eq _ hi := (trailingByte_nil hi).symm
  cnt_eq := rfl

theorem holdsBuffer_shiftIn {p : List Byte} {s : State} (h : HoldsBuffer p s) (b : Byte) :
    HoldsBuffer (p ++ [b]) (shiftIn b s) where
  state_eq := h.state_eq
  inv := inv_shiftIn b h.state_eq h.inv
  read_eq i hi := by
    rw [shiftIn_win, Memory.read_pushByte, trailingByte_snoc p b hi]
    split
    · rfl
    · exact h.read_eq (i + 1) (by omega)
  cnt_eq := by
    rw [shiftIn_cnt, countUp_toNat, h.cnt_eq, List.length_append, List.length_singleton]
    omega

theorem holdsBuffer_shiftInAll {p q : List Byte} {s : State} (h : HoldsBuffer q s) :
    HoldsBuffer (q ++ p) (shiftInAll p s) := by
  induction p generalizing q s with
  | nil => rwa [List.append_nil]
  | cons b p ih => rw [shiftInAll_cons, List.append_cons]; exact ih (holdsBuffer_shiftIn h b)

/-- The port, the responses and `CMDERR` have no part in what the buffer holds. -/
theorem holdsBuffer_of_port {p : List Byte} {s : State} (h : HoldsBuffer p s) (es : List PortEvent) :
    HoldsBuffer p { s with port := es } := ⟨h.state_eq, h.inv, h.read_eq, h.cnt_eq⟩

/-- What no single shift-in changes, the shift-in of many bytes does not change. -/
theorem shiftInAll_keeps {α : Type} (f : State → α) (hf : ∀ b s, f (shiftIn b s) = f s) (p : List Byte) (s : State) :
    f (shiftInAll p s) = f s := by
  induction p generalizing s with
  | nil => rfl
  | cons b p ih => rw [shiftInAll_cons, ih, hf]

/-- The run of `BEGIN` and the `PUSH`es of `p` ends with a buffer that holds `p`. -/
theorem fillEvents_holdsBuffer {s : State} {p : List Byte} {es : List PortEvent} (hp : s.port = fillEvents p ++ es) :
    ∃ t, runSteps (p.length + 1) s = .next t ∧ HoldsBuffer p t ∧ t.port = es ∧ t.cmdErr = s.cmdErr ∧ t.resps = s.resps := by
  refine ⟨_, runSteps_fillEvents hp, holdsBuffer_shiftInAll (holdsBuffer_openBuffer _), ?_, ?_, ?_⟩
  · rw [shiftInAll_keeps State.port fun _ _ => rfl, openBuffer_port]
  · rw [shiftInAll_keeps State.cmdErr fun _ _ => rfl, openBuffer_cmdErr]
  · rw [shiftInAll_keeps State.resps fun _ _ => rfl, openBuffer_resps]

/-- Settles O19: a filled buffer holds the trailing bytes, and meets the invariant, under which no run stops. -/
theorem windowHoldsTheTrailingBytes : Obligations.WindowHoldsTheTrailingBytes := by
  unfold Obligations.WindowHoldsTheTrailingBytes
  intro s p es hp
  obtain ⟨t, hrun, hbuf, hport, herr, hresps⟩ := fillEvents_holdsBuffer hp
  refine ⟨t, hrun, hbuf.state_eq, hport, herr, hresps, hbuf.read_eq, fun k => ?_⟩
  obtain ⟨u, hu, -⟩ := runSteps_of_inv k hbuf.inv
  exact ⟨u, hu⟩

/-! ## The outcome of `END` -/

theorem runSteps_one (s : State) : runSteps 1 s = step s := by
  rw [runSteps_succ]
  cases step s <;> rfl

/-- The run of `BEGIN`, the `PUSH`es of `p` and `END` is `END` on a buffer that holds `p`. -/
theorem runSteps_decodeEvents {s : State} {p : List Byte} {es : List PortEvent} (hp : s.port = decodeEvents p ++ es) :
    ∃ u, HoldsBuffer p u ∧ u.cmdErr = s.cmdErr ∧ runSteps (p.length + 2) s = exec .endBuffer u := by
  rw [decodeEvents, List.append_assoc, List.singleton_append] at hp
  obtain ⟨t, hrun, hbuf, hport, herr, -⟩ := fillEvents_holdsBuffer hp
  refine ⟨{ t with port := es }, holdsBuffer_of_port hbuf es, herr, ?_⟩
  have hdecode : decode (encode .endBuffer) = .ok .endBuffer := decodeOfEncodeIsTheCommand _ rfl
  rw [runSteps_add (m := 1) hrun, runSteps_one, step_of_command hport, runWord_of_decode hdecode]

/-- `END` in FILL changes neither `CNT` nor `CMDERR`. -/
theorem exec_end_keeps {u t : State} (hu : u.state = .fill) (h : exec .endBuffer u = .next t) :
    t.cnt = u.cnt ∧ t.cmdErr = u.cmdErr := by
  cases effect_of_exec h with
  | tooShort _ _ => exact ⟨rfl, rfl⟩
  | decoded F _ _ _ => exact ⟨validateAndDecode_cnt F u, validateAndDecode_cmdErr F u⟩
  | answered _ hread _ => cases hread
  | refused _ hc => exact absurd (commandErrorCause_endBuffer.2 (requireFill_eq_none.2 hu)) hc

/-- The whole window is decided by what its 302 addresses read as. -/
theorem wholeWindow_congr {m m' : Memory} (hm : Memory.wf m) (hm' : Memory.wf m')
    (h : ∀ i < 302, Memory.read m i = Memory.read m' i) : Memory.wholeWindow m = Memory.wholeWindow m' := by
  refine Option.ext fun F => ?_
  rw [Memory.wholeWindow_eq_some hm, Memory.wholeWindow_eq_some hm']
  exact and_congr_right fun _ => forall₂_congr fun i hi => by rw [h i hi]

/-- The record is decided by four elements and the window. -/
theorem sameRecord_of_elements {s t : State} (hstate : s.state = t.state) (hcode : s.errCode = t.errCode) (hsync : s.sync = t.sync)
    (hanom : s.anom = t.anom) (hwin : Memory.wholeWindow s.win = Memory.wholeWindow t.win) : s.sameRecord t := by
  have hframe : s.normalisedFrame = t.normalisedFrame := by
    rw [State.normalisedFrame, State.normalisedFrame, State.frameDefined, State.frameDefined, hstate, hcode, hwin]
  refine ⟨hstate, hcode, hsync, hanom, fun q => ?_, hframe⟩
  rw [State.resultRegister, State.resultRegister, hstate, hframe]

/-- The validator and the decoder take the record from the frame alone. -/
theorem sameRecord_validateAndDecode (F : Frame) {u v : State} (hwin : Memory.wholeWindow u.win = Memory.wholeWindow v.win) :
    (validateAndDecode F u).sameRecord (validateAndDecode F v) := by
  rw [validateAndDecode_eq, validateAndDecode_eq]
  split
  · exact sameRecord_of_elements rfl rfl rfl rfl hwin
  · exact sameRecord_of_elements rfl rfl rfl rfl hwin

/-- `END` on two buffers that are both long enough or both too short, with the same trailing bytes, leaves the same record. -/
theorem exec_end_sameRecord {p q : List Byte} {u v : State} (hu : HoldsBuffer p u) (hv : HoldsBuffer q v)
    (hlen : 302 ≤ p.length ↔ 302 ≤ q.length) (htrail : ∀ i < 302, trailingByte p i = trailingByte q i) :
    ∃ t t', exec .endBuffer u = .next t ∧ exec .endBuffer v = .next t' ∧ t.sameRecord t' := by
  have hucnt := hu.cnt_eq
  have hvcnt := hv.cnt_eq
  obtain ⟨hwu, -, -⟩ := hu.inv
  obtain ⟨hwv, -, -⟩ := hv.inv
  have hread : ∀ i < 302, Memory.read u.win i = Memory.read v.win i := fun i hi => by
    rw [hu.read_eq i hi, hv.read_eq i hi, htrail i hi]
  have hwin : Memory.wholeWindow u.win = Memory.wholeWindow v.win := wholeWindow_congr hwu hwv hread
  rcases Nat.lt_or_ge p.length 302 with hshort | hlong
  · exact ⟨failTooShort u, failTooShort v, exec_end_of_short hu.state_eq (by omega), exec_end_of_short hv.state_eq (by omega),
      sameRecord_of_elements rfl rfl rfl rfl hwin⟩
  · have hlongu : 302 ≤ u.cnt.toNat := by omega
    obtain ⟨F, hF⟩ := wholeWindow_of_inv hu.inv hlongu
    exact ⟨validateAndDecode F u, validateAndDecode F v, exec_end_of_whole hu.state_eq hlongu hF,
      exec_end_of_whole hv.state_eq (by omega) (hwin ▸ hF), sameRecord_validateAndDecode F hwin⟩

/-- Settles O21: `X ++ G` and `G` have the same trailing bytes. -/
theorem prefixNeverChangesTheRecord : Obligations.PrefixNeverChangesTheRecord := by
  unfold Obligations.PrefixNeverChangesTheRecord
  intro s s' X G es es' hG hp hp'
  obtain ⟨u, hu, -, hrun⟩ := runSteps_decodeEvents hp
  obtain ⟨v, hv, -, hrun'⟩ := runSteps_decodeEvents hp'
  have hlen : 302 ≤ (X ++ G).length ↔ 302 ≤ G.length := by rw [List.length_append]; omega
  rw [hrun, hrun']
  exact exec_end_sameRecord hu hv hlen fun i _ => trailingByte_append X hG i

/-- Settles O22: both runs are `END` on a buffer that holds `p`, and `END` keeps `CNT` and `CMDERR`. -/
theorem sameBytesGiveTheSameRecord : Obligations.SameBytesGiveTheSameRecord := by
  unfold Obligations.SameBytesGiveTheSameRecord
  intro s s' p es es' hp hp'
  obtain ⟨u, hu, huerr, hrun⟩ := runSteps_decodeEvents hp
  obtain ⟨v, hv, hverr, hrun'⟩ := runSteps_decodeEvents hp'
  obtain ⟨t, t', ht, ht', hsame⟩ := exec_end_sameRecord hu hv Iff.rfl fun _ _ => rfl
  obtain ⟨hcnt, herr⟩ := exec_end_keeps hu.state_eq ht
  obtain ⟨hcnt', herr'⟩ := exec_end_keeps hv.state_eq ht'
  have hcount : u.cnt = v.cnt := BitVec.eq_of_toNat_eq (hu.cnt_eq.trans hv.cnt_eq.symm)
  refine ⟨t, t', hrun.trans ht, hrun'.trans ht', hsame, ?_, herr.trans huerr, herr'.trans hverr⟩
  rw [hcnt, hcnt', hcount]

end Sys2Proof.Proofs.Buffers
end

section
/-! PROOFS. The four readback commands (41_readback.md R160 to R166): the one response of each where it is legal, the command
error elsewhere, and the words of its opcode.
The one idea: `RDREG` of a raw register and `RDBE` or `EXTLE` at its place answer the same sum over the frame, so that they
agree. -/

namespace Sys2Proof.Proofs.Readback

open Sys2Proof.Machine Sys2Proof.Proofs.Decoder Sys2Proof.Proofs.Effects Sys2Proof.Proofs.FrameReads Sys2Proof.Proofs.Invariant
  Sys2Proof.Proofs.Encoding Sys2Proof.Proofs.Responses Sys2Proof.Proofs.Control

/-! ## A read that is a command error (R160) -/

theorem raiseCmdError_of_readback (c : CmdCause) {i : Instr} (hi : isReadback i = true) (s : State) :
    raiseCmdError c i.opcode s = { s with cmdErr := true, resps := s.resps ++ [0#64] } := by
  rw [raiseCmdError_eq, opcReturnsResponse_opcode, if_pos hi]

/-- A read whose check fails sets `CMDERR`, answers 0 and does nothing else. -/
theorem exec_of_failedRead {i : Instr} {s : State} (hi : isReadback i = true) (h : commandErrorCause i s ≠ none) :
    exec i s = .next { s with cmdErr := true, resps := s.resps ++ [0#64] } := by
  obtain ⟨cause, he⟩ := exec_of_commandError h
  rw [he, raiseCmdError_of_readback cause hi]

/-- Settles O29: the only effects of a readback command are an answer, when its check passes, and a refusal, when it fails. -/
theorem readbackChangesNoState : Obligations.ReadbackChangesNoState := by
  unfold Obligations.ReadbackChangesNoState
  intro i s t hi h
  cases effect_of_exec h with
  | nop | reset | beginBuffer | push _ _ | tooShort _ _ | decoded _ _ _ _ => cases hi
  | answered v _ hc => exact ⟨fun _ => ⟨v, rfl⟩, fun herr => absurd hc herr⟩
  | refused cause herr => exact ⟨fun hc => absurd hc herr, fun _ => raiseCmdError_of_readback cause hi s⟩

/-! ## The words of the read opcodes (30_encoding.md R103 to R106, R109) -/

/-- A word of a read opcode `c` that sets one of the `m` bits from `k` on, which the legal words of the opcode have at 0, is a
command error. -/
theorem runWord_of_reservedReadBits {w : CommandWord} {c k m : Nat} (hread : opcReturnsResponse (BitVec.ofNat 8 c) = true)
    (hlegal : legalWord w → w.toNat / 2 ^ 24 = c % 2 ^ 8 → w.toNat / 2 ^ k % 2 ^ m = 0)
    (hw : opcodeOf w = BitVec.ofNat 8 c) (hne : w.extractLsb' k m ≠ 0#m) (s : State) :
    runWord w s = .next { s with cmdErr := true, resps := s.resps ++ [0#64] } := by
  have hopc : w.toNat / 2 ^ 24 = c % 2 ^ 8 := by rw [← toNat_opcodeOf, hw, BitVec.toNat_ofNat]
  have hillegal : ¬ legalWord w := fun h => hne (field_eq ((hlegal h hopc).trans (Nat.zero_mod _).symm))
  rw [runWord_of_not_legalWord hillegal, raiseCmdError_eq, hw, if_pos hread]

theorem encode_rdreg (r : RegNumber) : encode (.rdreg r) = 0x10000#20 ++ r :=
  BitVec.eq_of_toNat_eq ((toNat_encode_rdreg r).trans (toNat_append_eq 0x10000#20 r).symm)

theorem encode_rdfrm (off : FrameOffset) : encode (.rdfrm off) = 0x088000#23 ++ off :=
  BitVec.eq_of_toNat_eq ((toNat_encode_rdfrm off).trans (toNat_append_eq 0x088000#23 off).symm)

theorem encode_extle (start : BitVec 8) (width : BitVec 6) :
    encode (.extle start width) = (0x04800#18 ++ width) ++ start := by
  apply BitVec.eq_of_toNat_eq
  rw [toNat_encode_extle, toNat_append_eq, toNat_append_eq, BitVec.toNat_ofNat]
  omega

theorem encode_rdbe (off : FrameOffset) (nsel : BitVec 2) :
    encode (.rdbe off (2 ^ nsel.toNat)) = (0x026000#21 ++ nsel) ++ off := by
  apply BitVec.eq_of_toNat_eq
  rw [← byteCount, toNat_encode_rdbe, nselOf_byteCount, toNat_append_eq, toNat_append_eq, BitVec.toNat_ofNat]
  omega

/-! ## `RDREG` (R161, R162) -/

theorem number_of_registerOf_status {r : RegNumber} {q : StatusReg} (h : registerOf r = some (.status q)) :
    q.number = r.toNat := by
  unfold registerOf at h
  split at h
  · next q' hq' =>
    obtain rfl : q' = q := Register.status.inj (Option.some.inj h)
    exact beq_iff_eq.1 (List.find?_some (p := fun q => StatusReg.number q == r.toNat) hq')
  · next => simp at h

theorem number_of_registerOf_result {r : RegNumber} {q : ResultReg} (h : registerOf r = some (.result q)) :
    q.number = r.toNat := by
  unfold registerOf at h
  split at h
  · next => simp at h
  · next =>
    obtain ⟨q', hq', hresult⟩ := Option.map_eq_some_iff.1 h
    obtain rfl : q' = q := Register.result.inj hresult
    exact beq_iff_eq.1 (List.find?_some (p := fun q => ResultReg.number q == r.toNat) hq')

/-- Settles O25: by what the number stands for, nothing, a status register or a result register. -/
theorem registerReadChecksNumberThenState : Obligations.RegisterReadChecksNumberThenState := by
  unfold Obligations.RegisterReadChecksNumberThenState
  intro s r
  refine ⟨fun hr => exec_of_failedRead rfl (commandErrorCause_rdreg_unassigned hr s),
    fun q hr => ⟨number_of_registerOf_status hr, exec_rdreg_of_status hr s⟩,
    fun q hr => ⟨number_of_registerOf_result hr, fun hs => ?_, fun F hs hF => exec_rdreg_of_record hr hs hF⟩,
    fun w => ?_, fun w hw hne => runWord_of_reservedReadBits rfl (by unfold legalWord; omega) hw hne s⟩
  · exact exec_of_failedRead rfl (mt (commandErrorCause_rdreg_result hr).1 (mt requireRecord_eq_none.1 hs))
  · rw [decode_iff_eq_encode rfl, encode_rdreg]

/-! ## The reads of the frame where it is defined (R163 to R165) -/

/-- State, then operand: what the three frame reads check (40_control.md R130). -/
theorem frameCheck_eq_none {s : State} {c : Bool} :
    (requireFrame s).andThen (requireOperand c) = none ↔ s.frameDefined = true ∧ c = true := by
  rw [andThen_eq_none, requireFrame_eq_none, requireOperand_eq_none]

theorem checkRdfrm_eq_none {off : FrameOffset} {s : State} :
    checkRdfrm off s = none ↔ s.frameDefined = true ∧ off.toNat ≤ 301 := by
  rw [checkRdfrm, frameCheck_eq_none, rdfrmAccepts, decide_eq_true_iff]

theorem checkExtle_eq_none {a : BitVec 8} {w : BitVec 6} {s : State} :
    checkExtle a w s = none ↔
      s.frameDefined = true ∧ 1 ≤ a.toNat ∧ 1 ≤ w.toNat ∧ w.toNat ≤ 32 ∧ a.toNat + w.toNat - 1 ≤ 240 := by
  rw [checkExtle, frameCheck_eq_none, extleAccepts_iff]

theorem checkRdbe_eq_none {off : FrameOffset} {n : Nat} {s : State} :
    checkRdbe off n s = none ↔ s.frameDefined = true ∧ off.toNat + n ≤ 302 := by
  rw [checkRdbe, frameCheck_eq_none, rdbeAccepts, decide_eq_true_iff]

/-- `RDFRM` answers the frame's byte. -/
theorem exec_rdfrm_of_whole {off : FrameOffset} {s : State} {F : Frame} (hc : checkRdfrm off s = none)
    (hF : Memory.wholeWindow s.win = some F) :
    exec (.rdfrm off) s = .next (s.respond (BitVec.ofNat 64 (F.byte off.toNat).toNat)) := by
  rw [exec_rdfrm_of_check hc, withFrame_of_whole hF, zext64]

/-- `EXTLE` answers the source bits of the field, as a sum. -/
theorem exec_extle_of_whole {a : BitVec 8} {w : BitVec 6} {s : State} {F : Frame} (hc : checkExtle a w s = none)
    (hF : Memory.wholeWindow s.win = some F) :
    exec (.extle a w) s = .next (s.respond (BitVec.ofNat 64 (bitSum F a.toNat (a.toNat + w.toNat - 1)))) := by
  obtain ⟨-, ha, hw, -, hend⟩ := checkExtle_eq_none.1 hc
  rw [exec_extle_of_check hc, withFrame_of_whole hF, lbits_eq_bitSum F ha (by omega) hend, zext64]

/-- `RDBE` answers the bytes, as a sum. -/
theorem exec_rdbe_of_whole {off : FrameOffset} {n : Nat} {s : State} {F : Frame} (hc : checkRdbe off n s = none)
    (hF : Memory.wholeWindow s.win = some F) :
    exec (.rdbe off n) s = .next (s.respond (BitVec.ofNat 64 (beSum F off.toNat n))) := by
  rw [exec_rdbe_of_check hc, withFrame_of_whole hF, be_eq_beSum, zext64]

/-- Settles O26: the window's byte is the frame's byte, and the operand is checked against the last one. -/
theorem frameByteReadback : Obligations.FrameByteReadback := by
  unfold Obligations.FrameByteReadback
  intro s off
  rw [← frameDefined_iff]
  refine ⟨fun F hs hF hoff => ⟨F.byte off.toNat, read_of_whole hF (by omega), ?_⟩, fun hbad => ?_, fun w => ?_,
    fun w hw hne => runWord_of_reservedReadBits rfl (by unfold legalWord; omega) hw hne s⟩
  · exact exec_rdfrm_of_whole (checkRdfrm_eq_none.2 ⟨hs, hoff⟩) hF
  · refine exec_of_failedRead rfl (mt (commandErrorCause_rdfrm.trans checkRdfrm_eq_none).1 ?_)
    exact not_and_or.2 (hbad.imp_right Nat.not_le.2)
  · rw [decode_iff_eq_encode rfl, encode_rdfrm]

/-- Settles O27: a field of the LTAS section is the sum of its source bits, and the operands are checked against its ends. -/
theorem bitFieldReadback : Obligations.BitFieldReadback := by
  unfold Obligations.BitFieldReadback
  intro s a w
  rw [← frameDefined_iff]
  refine ⟨fun F hs hF ha hw hw32 hend => ?_, fun hbad => ?_, fun x => ?_,
    fun x hx hne => runWord_of_reservedReadBits rfl (by unfold legalWord; omega) hx hne s⟩
  · exact exec_extle_of_whole (checkExtle_eq_none.2 ⟨hs, ha, hw, hw32, hend⟩) hF
  · refine exec_of_failedRead rfl (mt (commandErrorCause_extle.trans checkExtle_eq_none).1 ?_)
    exact not_and_or.2 (hbad.imp_right fun _ => by omega)
  · rw [decode_iff_eq_encode rfl, encode_extle]

/-- Settles O28: the bytes most significant first are their sum, and the operands are checked against the frame's end. -/
theorem bigEndianReadback : Obligations.BigEndianReadback := by
  unfold Obligations.BigEndianReadback
  intro s off nsel
  rw [← frameDefined_iff]
  refine ⟨fun F hs hF hend => ?_, fun hbad => ?_, fun w => ?_,
    fun w hw hne => runWord_of_reservedReadBits rfl (by unfold legalWord; omega) hw hne s⟩
  · exact exec_rdbe_of_whole (checkRdbe_eq_none.2 ⟨hs, hend⟩) hF
  · refine exec_of_failedRead rfl (mt (commandErrorCause_rdbe.trans checkRdbe_eq_none).1 ?_)
    exact not_and_or.2 (hbad.imp_right Nat.not_le.2)
  · rw [decode_iff_eq_encode (i := .rdbe off (2 ^ nsel.toNat)) (validByteCount_byteCount nsel), encode_rdbe]

/-! ## `RDBE` and `EXTLE` at the place of a register (R166) -/

/-- The number of `e` names a result register whose value is unsigned `lbits(a, b)`. -/
def readsBits (e : RegNumber × Nat × Nat) : Prop :=
  ∃ q : ResultReg, registerOf e.1 = some (.result q) ∧ ∀ F : Frame, q.value F = .unsigned (F.lbits e.2.1 e.2.2)

/-- Each row is its register's defining rule (44_ltas_frame.md R261). -/
theorem readsBits_of_bitFieldRegister : ∀ e ∈ bitFieldRegisters, readsBits e := by
  simp only [bitFieldRegisters, List.forall_mem_append, List.forall_mem_cons, List.not_mem_nil, false_implies,
    implies_true, and_true]
  and_intros <;> exact ⟨_, rfl, fun _ => rfl⟩

/-- The bytes of each such register lie in the frame. -/
theorem bigEndianRegister_inside : ∀ e ∈ bigEndianRegisters, e.2.1 + e.2.2 ≤ 302 := by decide

/-- The bits of each such register lie in the LTAS section, and are no more than `EXTLE` reads. -/
theorem bitFieldRegister_inside :
    ∀ e ∈ bitFieldRegisters, 1 ≤ e.2.1 ∧ e.2.1 ≤ e.2.2 ∧ e.2.2 ≤ 240 ∧ e.2.2 - e.2.1 + 1 ≤ 32 := by decide

/-- In OK `RDREG` of such a number answers its source bits as a sum and changes nothing else. -/
theorem exec_rdreg_of_bitFieldRegister {e : RegNumber × Nat × Nat} (he : e ∈ bitFieldRegisters) {s : State} {F : Frame}
    (hs : s.state = .ok) (hF : Memory.wholeWindow s.win = some F) :
    exec (.rdreg e.1) s = .next (s.respond (BitVec.ofNat 64 (bitSum F e.2.1 e.2.2))) := by
  obtain ⟨q, hq, hvalue⟩ := readsBits_of_bitFieldRegister e he
  obtain ⟨hlo, hle, hhi, -⟩ := bitFieldRegister_inside e he
  rw [exec_rdreg_of_record hq hs hF, ResultReg.response, hvalue, lbits_eq_bitSum F hlo hle hhi]
  rfl

/-- `RDBE` at the bytes of a register answers their sum. -/
theorem exec_rdbe_of_bigEndianRegister {e : RegNumber × Nat × Nat} (he : e ∈ bigEndianRegisters) {s : State} {F : Frame}
    (hs : s.frameDefined = true) (hF : Memory.wholeWindow s.win = some F) :
    exec (.rdbe (BitVec.ofNat 9 e.2.1) e.2.2) s = .next (s.respond (BitVec.ofNat 64 (beSum F e.2.1 e.2.2))) := by
  have hend := bigEndianRegister_inside e he
  have hoff : (BitVec.ofNat 9 e.2.1).toNat = e.2.1 := by rw [BitVec.toNat_ofNat]; omega
  have hc : checkRdbe (BitVec.ofNat 9 e.2.1) e.2.2 s = none := checkRdbe_eq_none.2 ⟨hs, hoff.symm ▸ hend⟩
  rw [exec_rdbe_of_whole hc hF, hoff]

/-- `EXTLE` at the bits of a register answers their sum. -/
theorem exec_extle_of_bitFieldRegister {e : RegNumber × Nat × Nat} (he : e ∈ bitFieldRegisters) {s : State} {F : Frame}
    (hs : s.frameDefined = true) (hF : Memory.wholeWindow s.win = some F) :
    exec (.extle (BitVec.ofNat 8 e.2.1) (BitVec.ofNat 6 (e.2.2 - e.2.1 + 1))) s =
      .next (s.respond (BitVec.ofNat 64 (bitSum F e.2.1 e.2.2))) := by
  obtain ⟨hlo, hle, hhi, hwidth⟩ := bitFieldRegister_inside e he
  have hstart : (BitVec.ofNat 8 e.2.1).toNat = e.2.1 := by rw [BitVec.toNat_ofNat]; omega
  have hcount : (BitVec.ofNat 6 (e.2.2 - e.2.1 + 1)).toNat = e.2.2 - e.2.1 + 1 := by rw [BitVec.toNat_ofNat]; omega
  have hlast : e.2.1 + (e.2.2 - e.2.1 + 1) - 1 = e.2.2 := by omega
  have hc : checkExtle (BitVec.ofNat 8 e.2.1) (BitVec.ofNat 6 (e.2.2 - e.2.1 + 1)) s = none := by
    rw [checkExtle_eq_none, hstart, hcount, hlast]
    exact ⟨hs, hlo, by omega, hwidth, hhi⟩
  rw [exec_extle_of_whole hc hF, hstart, hcount, hlast]

/-- Settles O30: both commands answer the sum of the register's bytes, or of its bits. -/
theorem readbackCommandsAgree : Obligations.ReadbackCommandsAgree := by
  unfold Obligations.ReadbackCommandsAgree
  intro s hs hwhole
  obtain ⟨F, hF⟩ := Option.isSome_iff_exists.1 hwhole
  have hframe : s.frameDefined = true := (frameDefined_iff s).2 (.inl hs)
  refine ⟨fun e he => ?_, fun e he => ?_⟩
  · rw [exec_rdbe_of_bigEndianRegister he hframe hF, exec_rdreg_of_readsBytes (readsBytes_of_bigEndianRegister e he) hs hF]
  · rw [exec_extle_of_bitFieldRegister he hframe hF, exec_rdreg_of_bitFieldRegister he hs hF]

end Sys2Proof.Proofs.Readback
end

section
/-! PROOFS. The anomaly set and the enumerated registers (42_fixed_header.md R192, R195; 43_sips_header.md R217, R222, R238, R240,
R244; 60_exceptions.md R325 to R327).
The one idea: an enumeration names the codes below `n` and gives every other code the variant of code `n`, so the register reads
the smaller of the raw code and `n`, and the variant is `Unknown` exactly from `n` on. -/

namespace Sys2Proof.Proofs.Enumerations

open Sys2Proof.Machine
open Sys2Proof.Proofs.FrameReads

/-! ## The anomaly set (60_exceptions.md R325 to R327) -/

theorem bit_injective : Function.Injective AnomalyKind.bit :=
  Function.LeftInverse.injective (g := AnomalyKind.ofNat) fun k => by cases k <;> rfl

theorem bit_lt (k : AnomalyKind) : k.bit < 9 := by cases k <;> decide

theorem getLsbD_setAnomaly (anom : BitVec 9) (k k' : AnomalyKind) :
    (setAnomaly anom k').getLsbD k.bit = true ↔ anom.getLsbD k.bit = true ∨ k = k' := by
  simp [setAnomaly, bit_lt, bit_injective.eq_iff, eq_comm (a := k)]

theorem getLsbD_foldl_setAnomaly (l : List AnomalyKind) (anom : BitVec 9) (k : AnomalyKind) :
    (l.foldl setAnomaly anom).getLsbD k.bit = true ↔ anom.getLsbD k.bit = true ∨ k ∈ l := by
  induction l generalizing anom with
  | nil => simp
  | cons k' l ih => rw [List.foldl_cons, ih, getLsbD_setAnomaly, List.mem_cons, or_assoc]

theorem mem_raiseIf {c : Bool} {k k' : AnomalyKind} : k ∈ raiseIf c k' ↔ c = true ∧ k = k' := by
  cases c <;> simp [raiseIf]

/-- The field of the anomaly decodes to its `Unknown` or `invalid` variant. -/
def raised (F : Frame) : AnomalyKind → Prop
  | .unknownEndianness => F.fhBorder = .unknown
  | .unknownExtendedHeaderType => F.fhExtType = .unknown
  | .unknownAddressType => F.eaAddrType = .unknown
  | .unknownRangeAvailability => F.tpRangeAv = .unknown
  | .unknownCategory => F.eiCat = .unknown
  | .unknownType => F.eiType = .unknown
  | .unknownCertified => F.eiCert = .unknown
  | .invalidVelocityScale => F.ltVelocityScale = .invalid
  | .unknownMode => F.ltModeName = .unknown

theorem mem_anomalyList (F : Frame) (k : AnomalyKind) : k ∈ F.anomalyList ↔ raised F k := by
  cases k <;>
    simp [Frame.anomalyList, Frame.fixedHeaderAnomalies, Frame.sipsAnomalies, Frame.ltasAnomalies, mem_raiseIf, raised]

theorem anomalies_bit_iff (F : Frame) (k : AnomalyKind) : F.anomalies.getLsbD k.bit = true ↔ raised F k := by
  rw [Frame.anomalies, getLsbD_foldl_setAnomaly, mem_anomalyList]
  simp

/-! ## The enumerations -/

section Enumerates

variable {α : Type} {ofRaw : Nat → α} {code : α → Nat} {unknown : α} {n : Nat}

/-- The codes below `n` are named, each by itself, and every other is the unknown variant, whose code is `n`. -/
structure Enumerates (ofRaw : Nat → α) (code : α → Nat) (unknown : α) (n : Nat) : Prop where
  named : ∀ v < n, code (ofRaw v) = v
  unnamed : ∀ v, n ≤ v → ofRaw v = unknown
  code_unknown : code unknown = n

theorem Enumerates.code_ofRaw (h : Enumerates ofRaw code unknown n) (v : Nat) : code (ofRaw v) = min v n := by
  rcases Nat.lt_or_ge v n with hlt | hge
  · rw [h.named v hlt, Nat.min_eq_left hlt.le]
  · rw [h.unnamed v hge, h.code_unknown, Nat.min_eq_right hge]

theorem Enumerates.ofRaw_eq_unknown (h : Enumerates ofRaw code unknown n) (v : Nat) : ofRaw v = unknown ↔ n ≤ v := by
  refine ⟨fun hv => ?_, h.unnamed v⟩
  have hcode := h.code_ofRaw v
  rw [hv, h.code_unknown] at hcode
  omega

end Enumerates

theorem enumerates_extHeaderType : Enumerates ExtHeaderType.ofRaw ExtHeaderType.code .unknown 4 :=
  ⟨by decide, fun v hv => by grind [ExtHeaderType.ofRaw], rfl⟩

theorem enumerates_addressType : Enumerates AddressType.ofRaw AddressType.code .unknown 2 :=
  ⟨by decide, fun v hv => by grind [AddressType.ofRaw], rfl⟩

theorem enumerates_rangeAvailability : Enumerates RangeAvailability.ofRaw RangeAvailability.code .unknown 2 :=
  ⟨by decide, fun v hv => by grind [RangeAvailability.ofRaw], rfl⟩

theorem enumerates_category : Enumerates Category.ofRaw Category.code .unknown 3 :=
  ⟨by decide, fun v hv => by grind [Category.ofRaw], rfl⟩

theorem enumerates_messageType : Enumerates MessageType.ofRaw MessageType.code .unknown 5 :=
  ⟨by decide, fun v hv => by grind [MessageType.ofRaw], rfl⟩

theorem enumerates_certified : Enumerates Certified.ofRaw Certified.code .unknown 2 :=
  ⟨by decide, fun v hv => by grind [Certified.ofRaw], rfl⟩

/-- The byte order is named at both ends of the flag's range, so it is no such enumeration (42_fixed_header.md R192). -/
theorem byteOrder_code_ofRaw (v : Nat) : (ByteOrder.ofRaw v).code = if v = 0xFFFFFFFF then 0 else if v = 0 then 1 else 2 := by
  rw [ByteOrder.ofRaw, apply_ite ByteOrder.code, apply_ite ByteOrder.code]
  rfl

theorem byteOrder_ofRaw_eq_unknown (v : Nat) : ByteOrder.ofRaw v = .unknown ↔ v ≠ 0xFFFFFFFF ∧ v ≠ 0 := by
  unfold ByteOrder.ofRaw
  split_ifs <;> simp [*]

/-! ## The registers -/

/-- In OK `RDREG` of an unsigned register answers its value, zero-extended, and changes nothing else. -/
theorem exec_rdreg_of_unsigned {r : RegNumber} {q : ResultReg} {v : Nat} (hr : registerOf r = some (.result q)) {s : State}
    {F : Frame} (hvalue : q.value F = .unsigned v) (hs : s.state = .ok) (hF : Memory.wholeWindow s.win = some F) :
    exec (.rdreg r) s = .next (s.respond (BitVec.ofNat 64 v)) := by
  rw [exec_rdreg_of_record hr hs hF, ResultReg.response, hvalue]
  rfl

/-- The number of `e` names the register of an enumeration of `BE(a, 4)` with `n` named codes, and the bit of `e` is the bit of its
anomaly. -/
def readsEnum (e : RegNumber × Nat × Nat × Nat) : Prop :=
  ∃ (q : ResultReg) (k : AnomalyKind), registerOf e.1 = some (.result q) ∧ k.bit = e.2.2.2 ∧
    ∀ F : Frame, q.value F = .unsigned (min (F.be e.2.1 4) e.2.2.1) ∧ (raised F k ↔ e.2.2.1 ≤ F.be e.2.1 4)

theorem readsEnum_of_enumerates {α : Type} {ofRaw : Nat → α} {code : α → Nat} {unknown : α} {n : Nat}
    (h : Enumerates ofRaw code unknown n) (q : ResultReg) (k : AnomalyKind) {r : RegNumber} {a : Nat}
    (hr : registerOf r = some (.result q)) (hvalue : ∀ F, q.value F = .unsigned (code (ofRaw (F.be a 4))))
    (hraised : ∀ F, raised F k ↔ ofRaw (F.be a 4) = unknown) : readsEnum (r, a, n, k.bit) :=
  ⟨q, k, hr, rfl, fun F => ⟨by rw [hvalue, h.code_ofRaw], by rw [hraised, h.ofRaw_eq_unknown]⟩⟩

theorem readsEnum_of_enumRegister : ∀ e ∈ enumRegisters, readsEnum e := by
  simp only [enumRegisters, List.forall_mem_cons, List.not_mem_nil, false_implies, implies_true, and_true]
  exact ⟨
    readsEnum_of_enumerates enumerates_extHeaderType .fhExtType .unknownExtendedHeaderType rfl (fun _ => rfl) (fun _ => .rfl),
    readsEnum_of_enumerates enumerates_addressType .eaAddrType .unknownAddressType rfl (fun _ => rfl) (fun _ => .rfl),
    readsEnum_of_enumerates enumerates_rangeAvailability .tpRangeAv .unknownRangeAvailability rfl (fun _ => rfl) (fun _ => .rfl),
    readsEnum_of_enumerates enumerates_category .eiCat .unknownCategory rfl (fun _ => rfl) (fun _ => .rfl),
    readsEnum_of_enumerates enumerates_messageType .eiType .unknownType rfl (fun _ => rfl) (fun _ => .rfl),
    readsEnum_of_enumerates enumerates_certified .eiCert .unknownCertified rfl (fun _ => rfl) (fun _ => .rfl)⟩

/-- Settles O38: `FH_BORDER` by the two flags it names, the other six as enumerations of a big-endian word. -/
theorem enumRegistersReadTheirCodes : Obligations.EnumRegistersReadTheirCodes := by
  unfold Obligations.EnumRegistersReadTheirCodes
  intro s F hs hF
  simp only [← be_eq_beSum]
  refine ⟨?_, ?_, fun e he => ?_⟩
  · exact exec_rdreg_of_unsigned (q := .fhBorder) rfl (congrArg RegValue.unsigned (byteOrder_code_ofRaw (F.be 0 4))) hs hF
  · exact (anomalies_bit_iff F .unknownEndianness).trans (byteOrder_ofRaw_eq_unknown (F.be 0 4))
  · obtain ⟨q, k, hr, hbit, hreads⟩ := readsEnum_of_enumRegister e he
    obtain ⟨hvalue, hraised⟩ := hreads F
    exact ⟨exec_rdreg_of_unsigned hr hvalue hs hF, by rw [← hbit, anomalies_bit_iff, hraised]⟩

end Sys2Proof.Proofs.Enumerations
end

section
/-! PROOFS. The bytes of the frame that a register is read from (20_memory.md R62; 42_fixed_header.md R193).
The one idea: a register's value is a function of the bytes of its source range alone, so a byte outside that range, the byte
ordering flag for one, cannot switch it. -/

namespace Sys2Proof.Proofs.SourceBytes

open Sys2Proof.Machine

/-! ## The reads of the frame -/

/-- The frames hold the same `n` bytes from byte `a` on. -/
def agreeOn (F G : Frame) (a n : Nat) : Prop := ∀ j < n, F.byte (a + j) = G.byte (a + j)

section Reads

variable {F G : Frame} {a n : Nat}

theorem memRead_congr (h : agreeOn F G a n) : F.memRead a n = G.memRead a n :=
  List.map_congr_left fun j hj => h j (List.mem_range.1 hj)

theorem be_congr (h : agreeOn F G a n) : F.be a n = G.be a n := congrArg beValue (memRead_congr h)

theorem tlen_congr (h : agreeOn F G a n) : F.tlen a n = G.tlen a n := by
  induction n with
  | zero => rfl
  | succ n ih => rw [tlen_succ, tlen_succ, h n n.lt_succ_self, ih fun j hj => h j (Nat.lt_succ_of_lt hj)]

theorem le_congr (h : agreeOn F G a n) : F.le a n = G.le a n := congrArg leValue (memRead_congr h)

theorem ltasField_congr (h : agreeOn F G 272 30) (f : LtasField) : F.ltasField f = G.ltasField f := by
  have hsection : F.ltasInteger = G.ltasInteger := le_congr h
  rw [Frame.ltasField, Frame.ltasField, Frame.lbits, Frame.lbits, hsection]

end Reads

/-! ## The registers -/

/-- The first byte and the byte count of the field that a register is read from: its row of the layout of 20_memory.md R62. Every
LTAS register is read from the whole section integer. -/
def sourceBytes : ResultReg → Nat × Nat
  | .fhBorderRaw | .fhBorder => (0, 4)
  | .fhExtTypeRaw | .fhExtType => (4, 4)
  | .fhBodySize => (8, 4)
  | .fhBlockSize => (12, 4)
  | .eaSiteIdLen => (16, 16)
  | .eaSysNameLen => (32, 16)
  | .eaLuNameLen => (48, 16)
  | .eaAddrTypeRaw | .eaAddrType => (64, 4)
  | .eaBoxIdLen => (68, 32)
  | .eaTaskId => (100, 4)
  | .tpRangeAvRaw | .tpRangeAv => (112, 4)
  | .tpYear => (116, 4)
  | .tpDoy => (120, 4)
  | .tpSecs => (124, 4)
  | .tpUsec => (128, 4)
  | .tpLat => (132, 8)
  | .tpLon => (140, 8)
  | .tpHgt => (148, 8)
  | .tpAz => (156, 8)
  | .tpEl => (164, 8)
  | .tpRange => (172, 8)
  | .tpSiteId => (180, 4)
  | .tpDqual => (184, 1)
  | .eiGroupLen => (208, 16)
  | .eiCatRaw | .eiCat => (224, 4)
  | .eiTypeRaw | .eiType => (228, 4)
  | .eiUnit => (232, 4)
  | .eiId => (236, 4)
  | .eiCertRaw | .eiCert => (240, 4)
  | .eiPrio => (244, 4)
  | .eiSecKey => (248, 4)
  | .tsYear => (252, 4)
  | .tsDoy => (256, 4)
  | .tsSecs => (260, 4)
  | .tsUsec => (264, 4)
  | _ => (272, 30)

/-- A register has one value in frames that agree on its source bytes, by the primitive that the register reads with. -/
theorem value_congr {F G : Frame} {q : ResultReg} (h : agreeOn F G (sourceBytes q).1 (sourceBytes q).2) :
    q.value F = q.value G := by
  cases q with
  | fhBorder => exact congrArg (fun v => RegValue.unsigned (ByteOrder.ofRaw v).code) (be_congr h)
  | fhExtType => exact congrArg (fun v => RegValue.unsigned (ExtHeaderType.ofRaw v).code) (be_congr h)
  | eaAddrType => exact congrArg (fun v => RegValue.unsigned (AddressType.ofRaw v).code) (be_congr h)
  | tpRangeAv => exact congrArg (fun v => RegValue.unsigned (RangeAvailability.ofRaw v).code) (be_congr h)
  | eiCat => exact congrArg (fun v => RegValue.unsigned (Category.ofRaw v).code) (be_congr h)
  | eiType => exact congrArg (fun v => RegValue.unsigned (MessageType.ofRaw v).code) (be_congr h)
  | eiCert => exact congrArg (fun v => RegValue.unsigned (Certified.ofRaw v).code) (be_congr h)
  | eiId | eiPrio => exact congrArg (fun v => RegValue.signed (sext 32 v)) (be_congr h)
  | tpDqual => exact congrArg (fun b => RegValue.unsigned (BitVec.toNat b)) (h 0 Nat.zero_lt_one)
  | eaSiteIdLen | eaSysNameLen | eaLuNameLen | eaBoxIdLen | eiGroupLen => exact congrArg RegValue.unsigned (tlen_congr h)
  | fhBorderRaw | fhExtTypeRaw | fhBodySize | fhBlockSize | eaAddrTypeRaw | eaTaskId | tpRangeAvRaw | tpYear | tpDoy | tpSecs
  | tpUsec | tpLat | tpLon | tpHgt | tpAz | tpEl | tpRange | tpSiteId | eiCatRaw | eiTypeRaw | eiUnit | eiCertRaw | eiSecKey
  | tsYear | tsDoy | tsSecs | tsUsec => exact congrArg RegValue.unsigned (be_congr h)
  | ltPscaleFactor => exact congrArg (fun v => RegValue.unsigned (PositionScale.ofCode v).factor) (ltasField_congr h _)
  | ltVscale => exact congrArg (fun v => RegValue.unsigned (VelocityScale.ofRaw v).code) (ltasField_congr h _)
  | ltVscaleFactor => exact congrArg (fun v => RegValue.unsigned (VelocityScale.ofRaw v).factor) (ltasField_congr h _)
  | ltPwTenthsUs => exact congrArg (fun v => RegValue.unsigned (PulseWidth.ofCode v).tenthsUs) (ltasField_congr h _)
  | ltEposCorr | ltFposCorr | ltGposCorr =>
    exact congrArg₂ (fun m s => RegValue.signed (corr 27 m s)) (ltasField_congr h _) (ltasField_congr h _)
  | ltFvelCorr | ltEvelCorr | ltGvelCorr =>
    exact congrArg₂ (fun m s => RegValue.signed (corr 14 m s)) (ltasField_congr h _) (ltasField_congr h _)
  | ltSatId | ltVehId | ltDoy | ltFmt | ltTodt | ltTods | ltSiteId | ltEposMag | ltEposSign | ltPscale | ltFposMag | ltFposSign
  | ltVscaleRaw | ltGposMag | ltGposSign | ltOptTrk | ltPlusTime | ltFvelMag | ltFvelSign | ltEvelMag | ltEvelSign | ltLiftoff
  | ltPlunge | ltPw | ltFlags | ltMode | ltGvelMag | ltGvelSign | ltChecksum | ltSpare | ltSyncBits =>
    exact congrArg RegValue.unsigned (ltasField_congr h _)

/-- Only the flag's own registers are read from its bytes. -/
theorem sourceBytes_after_flag {q : ResultReg} (hraw : q ≠ .fhBorderRaw) (hborder : q ≠ .fhBorder) :
    4 ≤ (sourceBytes q).1 := by
  cases q with
  | fhBorderRaw => exact absurd rfl hraw
  | fhBorder => exact absurd rfl hborder
  | _ => simp [sourceBytes]

/-- Settles O41: the source bytes of every other register come after the flag's. -/
theorem byteOrderFlagSwitchesNoOtherRead : Obligations.ByteOrderFlagSwitchesNoOtherRead := by
  unfold Obligations.ByteOrderFlagSwitchesNoOtherRead
  intro F G h q hraw hborder
  have hafter := sourceBytes_after_flag hraw hborder
  exact value_congr fun j _ => h _ (by omega)

end Sys2Proof.Proofs.SourceBytes
end

section
/-! PROOFS. The trimmed-length registers (43_sips_header.md R212 to R215, R218, R236).
The one idea: `TLEN` walks down from the field's end and stops at the first byte that is not 0x00, so every byte from the length on
is 0x00 and the byte before it is not. -/

namespace Sys2Proof.Proofs.TrimmedLengths

open Sys2Proof.Machine
open Sys2Proof.Proofs.Enumerations

/-! ## `TLEN` (R212) -/

theorem tlen_eq_zero_or_byte_ne_zero (F : Frame) (a w : Nat) : F.tlen a w = 0 ∨ F.byte (a + F.tlen a w - 1) ≠ 0#8 := by
  induction w with
  | zero => exact .inl (tlen_zero F a)
  | succ w ih =>
    rw [tlen_succ]
    split
    case isTrue hlast => exact .inr hlast
    case isFalse => exact ih

theorem byte_eq_zero_of_tlen_le {F : Frame} {a w j : Nat} (hj : F.tlen a w ≤ j) (hw : j < w) : F.byte (a + j) = 0#8 := by
  induction w with
  | zero => exact absurd hw j.not_lt_zero
  | succ w ih =>
    rw [tlen_succ] at hj
    split at hj
    case isTrue => omega
    case isFalse hlast =>
      rcases Nat.lt_succ_iff_lt_or_eq.1 hw with hlt | rfl
      · exact ih hj hlt
      · exact not_not.1 hlast

/-! ## The registers -/

/-- The number of `e` names a result register whose value is `TLEN(a, w)`. -/
def readsTlen (e : RegNumber × Nat × Nat) : Prop :=
  ∃ q : ResultReg, registerOf e.1 = some (.result q) ∧ ∀ F : Frame, q.value F = .unsigned (F.tlen e.2.1 e.2.2)

theorem readsTlen_of_trimmedRegister : ∀ e ∈ trimmedRegisters, readsTlen e := by
  simp only [trimmedRegisters, List.forall_mem_cons, List.not_mem_nil, false_implies, implies_true, and_true]
  exact ⟨⟨.eaSiteIdLen, rfl, fun _ => rfl⟩, ⟨.eaSysNameLen, rfl, fun _ => rfl⟩, ⟨.eaLuNameLen, rfl, fun _ => rfl⟩,
    ⟨.eaBoxIdLen, rfl, fun _ => rfl⟩, ⟨.eiGroupLen, rfl, fun _ => rfl⟩⟩

/-- Settles O40: the length that each register answers is `TLEN` of its field. -/
theorem trimmedLengthsStripTrailingZeros : Obligations.TrimmedLengthsStripTrailingZeros := by
  unfold Obligations.TrimmedLengthsStripTrailingZeros
  intro s F hs hF e he
  obtain ⟨q, hr, hvalue⟩ := readsTlen_of_trimmedRegister e he
  exact ⟨F.tlen e.2.1 e.2.2, tlen_le F _ _, exec_rdreg_of_unsigned hr (hvalue F) hs hF, tlen_eq_zero_or_byte_ne_zero F _ _,
    fun _ => byte_eq_zero_of_tlen_le⟩

end Sys2Proof.Proofs.TrimmedLengths
end

section
/-! PROOFS. The spare bytes of the header (43_sips_header.md R220, R235, R251).
The two ideas: no register has a spare byte among its source bytes, and each anomaly is a function of a register. -/

namespace Sys2Proof.Proofs.SpareBytes

open Sys2Proof.Machine
open Sys2Proof.Proofs.Enumerations Sys2Proof.Proofs.SourceBytes

/-! ## The registers -/

/-- The bytes of `source`, a first byte and a byte count, all lie outside [lo, hi). -/
abbrev clearOf (source : Nat × Nat) (lo hi : Nat) : Prop := source.1 + source.2 ≤ lo ∨ hi ≤ source.1

theorem sourceBytes_clearOf_spares (q : ResultReg) :
    clearOf (sourceBytes q) 104 112 ∧ clearOf (sourceBytes q) 185 208 ∧ clearOf (sourceBytes q) 268 272 := by
  cases q <;> decide

theorem not_spareByte_of_sourceByte (q : ResultReg) {j : Nat} (hj : j < (sourceBytes q).2) :
    ¬ spareByte ((sourceBytes q).1 + j) := by
  have hclear := sourceBytes_clearOf_spares q
  unfold spareByte
  omega

/-! ## The anomalies -/

/-- The register of the raw code that the anomaly's field is decoded from (60_exceptions.md R325). -/
def rawRegister : AnomalyKind → ResultReg
  | .unknownEndianness => .fhBorderRaw
  | .unknownExtendedHeaderType => .fhExtTypeRaw
  | .unknownAddressType => .eaAddrTypeRaw
  | .unknownRangeAvailability => .tpRangeAvRaw
  | .unknownCategory => .eiCatRaw
  | .unknownType => .eiTypeRaw
  | .unknownCertified => .eiCertRaw
  | .invalidVelocityScale => .ltVscaleRaw
  | .unknownMode => .ltMode

/-- One raw code decodes to one variant, so it raises the anomaly in both frames or in neither. -/
theorem raised_congr {F G : Frame} {k : AnomalyKind} (h : (rawRegister k).value F = (rawRegister k).value G) :
    raised F k ↔ raised G k := by
  cases k with
  | unknownEndianness => exact iff_of_eq (congrArg (ByteOrder.ofRaw · = .unknown) (RegValue.unsigned.inj h))
  | unknownExtendedHeaderType => exact iff_of_eq (congrArg (ExtHeaderType.ofRaw · = .unknown) (RegValue.unsigned.inj h))
  | unknownAddressType => exact iff_of_eq (congrArg (AddressType.ofRaw · = .unknown) (RegValue.unsigned.inj h))
  | unknownRangeAvailability => exact iff_of_eq (congrArg (RangeAvailability.ofRaw · = .unknown) (RegValue.unsigned.inj h))
  | unknownCategory => exact iff_of_eq (congrArg (Category.ofRaw · = .unknown) (RegValue.unsigned.inj h))
  | unknownType => exact iff_of_eq (congrArg (MessageType.ofRaw · = .unknown) (RegValue.unsigned.inj h))
  | unknownCertified => exact iff_of_eq (congrArg (Certified.ofRaw · = .unknown) (RegValue.unsigned.inj h))
  | invalidVelocityScale => exact iff_of_eq (congrArg (VelocityScale.ofRaw · = .invalid) (RegValue.unsigned.inj h))
  | unknownMode => exact iff_of_eq (congrArg (LtasMode.ofRaw · = .unknown) (RegValue.unsigned.inj h))

/-- Every bit of the anomaly set is an anomaly's. -/
theorem bit_ofNat : ∀ i < 9, (AnomalyKind.ofNat i).bit = i := by decide

theorem anomalies_congr {F G : Frame} (h : ∀ k, raised F k ↔ raised G k) : F.anomalies = G.anomalies := by
  refine BitVec.eq_of_getLsbD_eq fun i hi => ?_
  obtain ⟨k, rfl⟩ : ∃ k : AnomalyKind, k.bit = i := ⟨_, bit_ofNat i hi⟩
  rw [Bool.eq_iff_iff, anomalies_bit_iff, anomalies_bit_iff, h]

/-- Settles O42: every register is read from bytes outside the spares, and every anomaly follows from a register. -/
theorem spareBytesAffectNoResult : Obligations.SpareBytesAffectNoResult := by
  unfold Obligations.SpareBytesAffectNoResult
  intro F G h
  have hvalues (q : ResultReg) : q.value F = q.value G :=
    value_congr fun _ hj => h _ (not_spareByte_of_sourceByte q hj)
  exact ⟨anomalies_congr fun k => raised_congr (hvalues (rawRegister k)), hvalues⟩

end Sys2Proof.Proofs.SpareBytes
end

section
/-! PROOFS. The LTAS fields as bits and as bytes (44_ltas_frame.md R260, R261, R297, R304).
The one idea: a field that begins and ends with a byte is the little-endian number of its bytes, so `LT_FLAGS` is one byte,
`LT_SYNCBITS` the two sync bytes in the other order, and a field of one bit is that bit. -/

namespace Sys2Proof.Proofs.LtasFields

open Sys2Proof.Machine
open Sys2Proof.Proofs.Enumerations Sys2Proof.Proofs.FrameReads Sys2Proof.Proofs.Invariant Sys2Proof.Proofs.Control
open Sys2Proof.Proofs.Readback

/-- Settles O34: each row of the field map is its register's defining rule, and a field is the sum of its bits. -/
theorem ltasRegistersReadTheirBits : Obligations.LtasRegistersReadTheirBits :=
  fun _ _ hs hF _ he => exec_rdreg_of_bitFieldRegister he hs hF

/-! ## Fields of whole bytes -/

/-- The field of the `n + 1` whole bytes from section byte `j` on is their little-endian reading. -/
theorem lbits_wholeBytes (F : Frame) {j n : Nat} (h : j + (n + 1) ≤ 30) :
    F.lbits (8 * j + 1) (8 * (j + (n + 1))) = F.le (272 + j) (n + 1) := by
  have hfirst : (8 * j + 1 - 1) / 8 = j := by omega
  have hcount : 8 * (j + (n + 1)) - (8 * j + 1) + 1 = 8 * (n + 1) := by omega
  have hwindow := everyCoveringWindowExtractsTheField F (8 * j + 1) (8 * (j + (n + 1))) (n + 1) (by omega) (by omega)
    (by omega) (by omega) (by omega)
  rw [hfirst, Nat.add_sub_cancel, Nat.sub_self, Nat.shiftRight_zero, Nat.and_two_pow_sub_one_eq_mod, hcount, Nat.pow_mul,
    Nat.mod_eq_of_lt (le_lt F _ _)] at hwindow
  exact hwindow.symm

theorem le_one (F : Frame) (a : Nat) : F.le a 1 = (F.byte a).toNat := by
  rw [le_succ, le_zero, Nat.mul_zero, Nat.add_zero]

theorem le_two (F : Frame) (a : Nat) : F.le a 2 = (F.byte a).toNat + 256 * (F.byte (a + 1)).toNat := by
  rw [le_succ, le_one]

/-- `LT_FLAGS` is section byte 23 (R297). -/
theorem lbits_flags (F : Frame) : F.lbits 185 192 = (F.byte 295).toNat :=
  (lbits_wholeBytes F (j := 23) (n := 0) (by decide)).trans (le_one F 295)

/-- `LT_SYNCBITS` is section bytes 28 and 29 (R304). -/
theorem lbits_syncBits (F : Frame) : F.lbits 225 240 = (F.byte 300).toNat + 256 * (F.byte 301).toNat :=
  (lbits_wholeBytes F (j := 28) (n := 1) (by decide)).trans (le_two F 300)

/-! ## Fields of one bit -/

theorem bitSum_self (F : Frame) (k : Nat) : bitSum F k k = if sourceBit F k then 1 else 0 := by
  rw [bitSum, Nat.sub_self, Finset.sum_range_one, Nat.add_zero, Nat.pow_zero]

/-- The eight source bits of `LT_FLAGS` are the bits of frame byte 295. -/
theorem sourceBit_flags (F : Frame) {k : Nat} (hk : k < 8) : sourceBit F (185 + k) = (F.byte 295).getLsbD k := by
  rw [sourceBit, show 272 + (185 + k - 1) / 8 = 295 by omega, show (185 + k - 1) % 8 = k by omega]

theorem flagBit_inside (f : LtasFlag) : 1 ≤ f.sourceBit ∧ f.sourceBit ≤ 240 := by cases f <;> decide

/-- A flag is true when its source bit is 1. -/
theorem ltFlag_eq_sourceBit (F : Frame) (f : LtasFlag) : F.ltFlag f = sourceBit F f.sourceBit := by
  obtain ⟨hlo, hhi⟩ := flagBit_inside f
  rw [Frame.ltFlag, lbits_eq_bitSum F hlo le_rfl hhi, bitSum_self]
  cases sourceBit F f.sourceBit <;> rfl

/-- `EXTLE k, 1` answers source bit `k` alone. -/
theorem exec_extle_oneBit {k : Nat} (hlo : 1 ≤ k) (hhi : k ≤ 240) {s : State} {F : Frame} (hs : s.frameDefined = true)
    (hF : Memory.wholeWindow s.win = some F) :
    exec (.extle (BitVec.ofNat 8 k) 1#6) s = .next (s.respond (if sourceBit F k then 1#64 else 0#64)) := by
  have hstart : (BitVec.ofNat 8 k).toNat = k := by rw [BitVec.toNat_ofNat]; omega
  have hlast : k + (1#6).toNat - 1 = k := Nat.add_sub_cancel k 1
  have hc : checkExtle (BitVec.ofNat 8 k) 1#6 s = none := by
    rw [checkExtle_eq_none, hstart, hlast]
    exact ⟨hs, hlo, by decide, by decide, hhi⟩
  rw [exec_extle_of_whole hc hF, hstart, hlast, bitSum_self, apply_ite (BitVec.ofNat 64)]

/-- Settles O46: the field is one byte of the frame, and its source bits are the bits of that byte. -/
theorem flagRegisterIsFrameByte295 : Obligations.FlagRegisterIsFrameByte295 := by
  unfold Obligations.FlagRegisterIsFrameByte295
  intro F
  have hflag {k : Nat} (hk : k < 8) {f : LtasFlag} (hf : f.sourceBit = 185 + k) : F.ltFlag f = (F.byte 295).getLsbD k := by
    rw [ltFlag_eq_sourceBit, hf, sourceBit_flags F hk]
  refine ⟨congrArg RegValue.unsigned (lbits_flags F), ?_, fun s hs hF k hk => ?_, hflag (by decide) rfl, hflag (by decide) rfl,
    hflag (by decide) rfl, hflag (by decide) rfl, hflag (by decide) rfl, hflag (by decide) rfl, hflag (by decide) rfl,
    hflag (by decide) rfl⟩
  · rw [← lbits_eq_bitSum F (by decide) (by decide) (by decide), lbits_flags]
  · rw [exec_extle_oneBit (by omega) (by omega) ((frameDefined_iff s).2 (.inl hs)) hF, sourceBit_flags F hk]
    rfl

/-! ## The sync bytes (R304) -/

/-- The two accepted sync values, and what the same bytes read as in the other order. -/
theorem syncBytes_of_valid {F : Frame} (h : syncValid (F.be 300 2) = true) :
    (F.byte 300).toNat * 256 + (F.byte 301).toNat = 0x5858 ∧ (F.byte 300).toNat + 256 * (F.byte 301).toNat = 0x5858 ∨
    (F.byte 300).toNat * 256 + (F.byte 301).toNat = 0x58A0 ∧ (F.byte 300).toNat + 256 * (F.byte 301).toNat = 0xA058 := by
  have hsecond := (F.byte 301).isLt
  rw [syncValid_iff, be_sync] at h
  omega

/-- Settles O45: the field is the two sync bytes, and the invariant says that in OK their sync value was accepted. -/
theorem syncBitsReadLittleEndian : Obligations.SyncBitsReadLittleEndian := by
  unfold Obligations.SyncBitsReadLittleEndian
  refine ⟨fun F => ⟨lbits_syncBits F, le_two F 300⟩, fun s hinv hs => ?_⟩
  obtain ⟨-, -, hagree⟩ := hinv
  obtain ⟨-, -, F, hF, hvalid, -, -⟩ := (elementsAgree_of_ok hs).1 hagree
  refine ⟨F.byte 300, F.byte 301, read_of_whole hF (by decide), read_of_whole hF (by decide), ?_, syncBytes_of_valid hvalid⟩
  exact exec_rdreg_of_unsigned (q := .ltSyncBits) rfl (congrArg RegValue.unsigned (lbits_syncBits F)) hs hF

end Sys2Proof.Proofs.LtasFields
end

section
/-! PROOFS. The corrected values (44_ltas_frame.md R262, R263, R273, R278, R284, R289, R292, R301).
The one idea: flipping the N bits of m is 2^N - 1 - m, so `CORR_N(m, 1)` is m - 2^N and the correction is linear arithmetic. -/

namespace Sys2Proof.Proofs.Corrections

open Sys2Proof.Machine
open Sys2Proof.Proofs.FrameReads

/-! ## `CORR_N` (R262, R263) -/

/-- Flipping all `N` bits of a number that has no more is the distance to the largest one. -/
theorem xor_two_pow_sub_one {N m : Nat} (hm : m < 2 ^ N) : m ^^^ (2 ^ N - 1) = 2 ^ N - 1 - m := by
  have hflip := congrArg BitVec.toNat (BitVec.xor_allOnes (x := BitVec.ofNat N m))
  rwa [BitVec.toNat_xor, BitVec.toNat_not, BitVec.toNat_allOnes, BitVec.toNat_ofNat, Nat.mod_eq_of_lt hm] at hflip

theorem corr_zero (N m : Nat) : corr N m 0 = m := if_pos rfl

theorem corr_one {N m : Nat} (hm : m < 2 ^ N) : corr N m 1 = (m : Int) - 2 ^ N := by
  have hcast : ((2 ^ N : Nat) : Int) = 2 ^ N := Nat.cast_pow 2 N
  rw [corr, if_neg Nat.one_ne_zero, xor_two_pow_sub_one hm, ← hcast]
  omega

theorem corr_eq_sub {N m s : Nat} (hm : m < 2 ^ N) (hs : s = 0 ∨ s = 1) : corr N m s = (m : Int) - s * 2 ^ N := by
  rcases hs with rfl | rfl
  · rw [corr_zero, Nat.cast_zero, zero_mul, sub_zero]
  · rw [corr_one hm, Nat.cast_one, one_mul]

/-- The sign bit above the magnitude takes 2^N from it. -/
theorem sext_sign_magnitude {N m s : Nat} (hm : m < 2 ^ N) (hs : s = 0 ∨ s = 1) :
    sext (N + 1) (s * 2 ^ N + m) = (m : Int) - s * 2 ^ N := by
  have hcast : ((2 ^ N : Nat) : Int) = 2 ^ N := Nat.cast_pow 2 N
  rw [sext, Nat.add_sub_cancel, pow_succ, ← hcast]
  rcases hs with rfl | rfl
  · rw [if_pos (by omega)]
    omega
  · rw [if_neg (by omega)]
    omega

/-- Settles O35: each part is arithmetic on m - s·2^N. -/
theorem correctionIsTwosComplement : Obligations.CorrectionIsTwosComplement := by
  unfold Obligations.CorrectionIsTwosComplement
  intro N m s hm hs
  have hcast : ((2 ^ N : Nat) : Int) = 2 ^ N := Nat.cast_pow 2 N
  have hmod : ((m : Int) - s * (2 ^ N : Nat)) % (2 ^ N : Nat) = m := by
    rw [Int.sub_mul_emod_self_right]
    exact Int.emod_eq_of_lt (by omega) (by omega)
  rw [corr_eq_sub hm hs, sext_sign_magnitude hm hs, ← hcast]
  rcases hs with rfl | rfl
  · exact ⟨rfl, rfl, by omega, by omega, by omega, hmod⟩
  · exact ⟨rfl, rfl, by omega, by omega, by omega, hmod⟩

/-! ## The six registers -/

/-- In OK `RDREG` of a signed register answers its value, sign-extended, and changes nothing else. -/
theorem exec_rdreg_of_signed {r : RegNumber} {q : ResultReg} {v : Int} (hr : registerOf r = some (.result q)) {s : State}
    {F : Frame} (hvalue : q.value F = .signed v) (hs : s.state = .ok) (hF : Memory.wholeWindow s.win = some F) :
    exec (.rdreg r) s = .next (s.respond (BitVec.ofInt 64 v)) := by
  rw [exec_rdreg_of_record hr hs hF, ResultReg.response, hvalue]
  rfl

/-- The number of `e` names a result register whose value is `CORR_N` of its magnitude bits and its sign bit. -/
def readsCorrected (e : RegNumber × Nat × Nat × Nat × Nat) : Prop :=
  ∃ q : ResultReg, registerOf e.1 = some (.result q) ∧
    ∀ F : Frame, q.value F = .signed (corr e.2.1 (F.lbits e.2.2.1 e.2.2.2.1) (F.lbits e.2.2.2.2 e.2.2.2.2))

theorem readsCorrected_of_correctedRegister : ∀ e ∈ correctedRegisters, readsCorrected e := by
  simp only [correctedRegisters, List.forall_mem_cons, List.not_mem_nil, false_implies, implies_true, and_true]
  exact ⟨⟨.ltEposCorr, rfl, fun _ => rfl⟩, ⟨.ltFposCorr, rfl, fun _ => rfl⟩, ⟨.ltGposCorr, rfl, fun _ => rfl⟩,
    ⟨.ltFvelCorr, rfl, fun _ => rfl⟩, ⟨.ltEvelCorr, rfl, fun _ => rfl⟩, ⟨.ltGvelCorr, rfl, fun _ => rfl⟩⟩

/-- The magnitude of each such register has N bits, and its bits lie in the LTAS section. -/
theorem correctedRegister_inside :
    ∀ e ∈ correctedRegisters, e.2.2.2.1 - e.2.2.1 + 1 = e.2.1 ∧ 1 ≤ e.2.2.1 ∧ e.2.2.1 ≤ e.2.2.2.1 ∧ e.2.2.2.1 ≤ 240 ∧
      1 ≤ e.2.2.2.2 ∧ e.2.2.2.2 ≤ 240 := by decide

/-- A field of one bit is 0 or 1. -/
theorem lbits_self_eq_zero_or_one (F : Frame) (k : Nat) : F.lbits k k = 0 ∨ F.lbits k k = 1 := by
  have hlt := lbits_lt F k k
  rw [Nat.sub_self] at hlt
  omega

/-- Settles O36: the magnitude fits N bits and the sign is one bit, so `CORR_N` is magnitude - sign·2^N. -/
theorem correctedRegistersReadSigned : Obligations.CorrectedRegistersReadSigned := by
  unfold Obligations.CorrectedRegistersReadSigned
  intro s F hs hF e he
  obtain ⟨q, hr, hvalue⟩ := readsCorrected_of_correctedRegister e he
  obtain ⟨hwidth, hlo, hle, hhi, hsignlo, hsignhi⟩ := correctedRegister_inside e he
  have hmag : F.lbits e.2.2.1 e.2.2.2.1 < 2 ^ e.2.1 := hwidth ▸ lbits_lt F e.2.2.1 e.2.2.2.1
  have hcorr := corr_eq_sub hmag (lbits_self_eq_zero_or_one F e.2.2.2.2)
  rw [exec_rdreg_of_signed hr (hvalue F) hs hF, hcorr, lbits_eq_bitSum F hlo hle hhi, lbits_eq_bitSum F hsignlo le_rfl hsignhi]
  rfl

end Sys2Proof.Proofs.Corrections
end

section
/-! PROOFS. The registers looked up from a two-bit code (44_ltas_frame.md R274, R275, R280, R281, R295, R296).
The one idea: a two-bit code is below 4, so each table is checked at its four codes. -/

namespace Sys2Proof.Proofs.CodeTables

open Sys2Proof.Machine
open Sys2Proof.Proofs.Enumerations Sys2Proof.Proofs.FrameReads

theorem positionScale_factor_ofCode :
    ∀ c < 4, (PositionScale.ofCode c).factor = ([1, 10, 10000, 100000000000] : List Nat).getD c 0 := by decide

theorem velocityScale_code_ofRaw : ∀ c < 4, (VelocityScale.ofRaw c).code = ([0, 1, 2, 2] : List Nat).getD c 0 := by decide

theorem velocityScale_factor_ofRaw : ∀ c < 4, (VelocityScale.ofRaw c).factor = ([1, 10, 0, 0] : List Nat).getD c 0 := by decide

theorem pulseWidth_tenthsUs_ofCode : ∀ c < 4, (PulseWidth.ofCode c).tenthsUs = ([10, 24, 50, 100] : List Nat).getD c 0 := by decide

/-- The velocity scale names the codes 0 and 1; 2 and 3 are invalid (R280). -/
theorem enumerates_velocityScale : Enumerates VelocityScale.ofRaw VelocityScale.code .invalid 2 :=
  ⟨by decide, fun v hv => by grind [VelocityScale.ofRaw], rfl⟩

/-- Settles O37: each register is its table at the field's code, and anomaly bit 7 is the invalid velocity scale's. -/
theorem codeTablesReadTheirEntries : Obligations.CodeTablesReadTheirEntries := by
  unfold Obligations.CodeTablesReadTheirEntries
  intro s F hs hF
  rw [← lbits_eq_bitSum F (by decide) (by decide) (by decide), ← lbits_eq_bitSum F (by decide) (by decide) (by decide),
    ← lbits_eq_bitSum F (by decide) (by decide) (by decide)]
  refine ⟨?_, ?_, ?_, ?_, ?_⟩
  · exact exec_rdreg_of_unsigned (q := .ltPscaleFactor) rfl
      (congrArg RegValue.unsigned (positionScale_factor_ofCode _ (lbits_lt F 89 90))) hs hF
  · exact exec_rdreg_of_unsigned (q := .ltVscale) rfl
      (congrArg RegValue.unsigned (velocityScale_code_ofRaw _ (lbits_lt F 119 120))) hs hF
  · exact exec_rdreg_of_unsigned (q := .ltVscaleFactor) rfl
      (congrArg RegValue.unsigned (velocityScale_factor_ofRaw _ (lbits_lt F 119 120))) hs hF
  · exact exec_rdreg_of_unsigned (q := .ltPwTenthsUs) rfl
      (congrArg RegValue.unsigned (pulseWidth_tenthsUs_ofCode _ (lbits_lt F 183 184))) hs hF
  · exact (anomalies_bit_iff F .invalidVelocityScale).trans (enumerates_velocityScale.ofRaw_eq_unknown _)

end Sys2Proof.Proofs.CodeTables
end

section
/-! PROOFS. The checksum (44_ltas_frame.md R302).
The one idea: a register's value is a function of the header bytes and of the LTAS fields, and only `LT_CHECKSUM` is read from the
checksum field. -/

namespace Sys2Proof.Proofs.Checksum

open Sys2Proof.Machine
open Sys2Proof.Proofs.FrameReads Sys2Proof.Proofs.Readback Sys2Proof.Proofs.SourceBytes Sys2Proof.Proofs.SpareBytes

/-! ## The fields and the registers -/

theorem ltasField_inside (f : LtasField) : 1 ≤ f.sourceBits.1 ∧ f.sourceBits.1 ≤ f.sourceBits.2 ∧ f.sourceBits.2 ≤ 240 := by
  cases f <;> decide

/-- Every other field lies below the checksum bits or above them (R260). -/
theorem sourceBits_clearOf_checksum {f : LtasField} (hf : f ≠ .checksum) : f.sourceBits.2 < 211 ∨ 217 < f.sourceBits.1 := by
  cases f with
  | checksum => exact absurd rfl hf
  | _ => decide

/-- A field has one value in frames that agree on its source bits. -/
theorem ltasField_congr_of_bits {F G : Frame} {f : LtasField}
    (h : ∀ k, f.sourceBits.1 ≤ k → k ≤ f.sourceBits.2 → sourceBit F k = sourceBit G k) : F.ltasField f = G.ltasField f := by
  obtain ⟨hlo, hle, hhi⟩ := ltasField_inside f
  rw [Frame.ltasField, Frame.ltasField, lbits_eq_bitSum F hlo hle hhi, lbits_eq_bitSum G hlo hle hhi, bitSum, bitSum]
  refine Finset.sum_congr rfl fun k hk => ?_
  have hk := Finset.mem_range.1 hk
  rw [h (f.sourceBits.1 + k) (by omega) (by omega)]

/-- Every other register has one value in frames that agree on the header bytes and on every field but the checksum. -/
theorem value_congr_of_fields {F G : Frame} (hheader : ∀ i < 272, F.byte i = G.byte i)
    (hfield : ∀ f : LtasField, f ≠ .checksum → F.ltasField f = G.ltasField f) {q : ResultReg} (hq : q ≠ .ltChecksum) :
    q.value F = q.value G := by
  have hbytes (hend : (sourceBytes q).1 + (sourceBytes q).2 ≤ 272) : q.value F = q.value G :=
    value_congr fun _ _ => hheader _ (by omega)
  cases q with
  | ltChecksum => exact absurd rfl hq
  | ltPscaleFactor =>
    exact congrArg (fun v => RegValue.unsigned (PositionScale.ofCode v).factor) (hfield .positionScale (by decide))
  | ltVscale => exact congrArg (fun v => RegValue.unsigned (VelocityScale.ofRaw v).code) (hfield .velocityScale (by decide))
  | ltVscaleFactor =>
    exact congrArg (fun v => RegValue.unsigned (VelocityScale.ofRaw v).factor) (hfield .velocityScale (by decide))
  | ltPwTenthsUs => exact congrArg (fun v => RegValue.unsigned (PulseWidth.ofCode v).tenthsUs) (hfield .pulseWidth (by decide))
  | ltEposCorr | ltFposCorr | ltGposCorr =>
    exact congrArg₂ (fun m s => RegValue.signed (corr 27 m s)) (hfield _ (by decide)) (hfield _ (by decide))
  | ltFvelCorr | ltEvelCorr | ltGvelCorr =>
    exact congrArg₂ (fun m s => RegValue.signed (corr 14 m s)) (hfield _ (by decide)) (hfield _ (by decide))
  | ltSatId | ltVehId | ltDoy | ltFmt | ltTodt | ltTods | ltSiteId | ltEposMag | ltEposSign | ltPscale | ltFposMag | ltFposSign
  | ltVscaleRaw | ltGposMag | ltGposSign | ltOptTrk | ltPlusTime | ltFvelMag | ltFvelSign | ltEvelMag | ltEvelSign | ltLiftoff
  | ltPlunge | ltPw | ltFlags | ltMode | ltGvelMag | ltGvelSign | ltSpare | ltSyncBits =>
    exact congrArg RegValue.unsigned (hfield _ (by decide))
  | _ => exact hbytes (by decide)

/-! ## The outcome of `END` -/

theorem rawRegister_ne_checksum (k : AnomalyKind) : rawRegister k ≠ .ltChecksum := by cases k <;> decide

/-- The validator and the decoder write the same elements for frames with the same sync value and the same anomalies. -/
theorem validateAndDecode_elements_congr {F G : Frame} (hsync : F.be 300 2 = G.be 300 2) (hanom : F.anomalies = G.anomalies)
    (u v : State) :
    (validateAndDecode F u).state = (validateAndDecode G v).state ∧
    (validateAndDecode F u).errCode = (validateAndDecode G v).errCode ∧
    (validateAndDecode F u).sync = (validateAndDecode G v).sync ∧
    (validateAndDecode F u).anom = (validateAndDecode G v).anom := by
  rw [validateAndDecode_eq, validateAndDecode_eq, hsync]
  split
  · exact ⟨rfl, rfl, rfl, hanom⟩
  · exact ⟨rfl, rfl, rfl, rfl⟩

/-- Frames that differ in the checksum bits alone agree on every other source bit of the section. -/
theorem sourceBit_congr_of_checksum {F G : Frame} (hbytes : ∀ i, i ≠ 298 → i ≠ 299 → F.byte i = G.byte i)
    (hbits : ∀ k, 209 ≤ k → k ≤ 224 → (k < 211 ∨ 217 < k) → sourceBit F k = sourceBit G k) {k : Nat}
    (hk : k < 211 ∨ 217 < k) : sourceBit F k = sourceBit G k := by
  by_cases hshared : 209 ≤ k ∧ k ≤ 224
  · exact hbits k hshared.1 hshared.2 hk
  · rw [sourceBit, sourceBit, hbytes _ (by omega) (by omega)]

/-- Settles O43: every field but the checksum is the same, so are the registers and the anomalies, and the sync bytes are shared. -/
theorem checksumIsNeverVerified : Obligations.ChecksumIsNeverVerified := by
  unfold Obligations.ChecksumIsNeverVerified
  intro s s' t t' F G hs hs' hcnt hlong hF hG hbytes hbits ht ht'
  obtain rfl := Host.Outcome.next.inj ((exec_end_of_whole hs hlong hF).symm.trans ht)
  obtain rfl := Host.Outcome.next.inj ((exec_end_of_whole hs' (hcnt ▸ hlong) hG).symm.trans ht')
  have hfield (f : LtasField) (hf : f ≠ .checksum) : F.ltasField f = G.ltasField f :=
    ltasField_congr_of_bits fun k hlo hhi =>
      sourceBit_congr_of_checksum hbytes hbits ((sourceBits_clearOf_checksum hf).imp hhi.trans_lt fun h => h.trans_le hlo)
  have hvalue (q : ResultReg) (hq : q ≠ .ltChecksum) : q.value F = q.value G :=
    value_congr_of_fields (fun i hi => hbytes i (by omega) (by omega)) hfield hq
  have hanom : F.anomalies = G.anomalies :=
    anomalies_congr fun k => raised_congr (hvalue (rawRegister k) (rawRegister_ne_checksum k))
  have hsync : F.be 300 2 = G.be 300 2 := be_congr fun j _ => hbytes _ (by omega) (by omega)
  obtain ⟨hstate, hcode, hsyncs, hanoms⟩ := validateAndDecode_elements_congr hsync hanom s s'
  refine ⟨hstate, hcode, hsyncs, hanoms, hvalue, fun hok => ?_⟩
  exact exec_rdreg_of_bitFieldRegister (e := (0x086#12, 211, 217)) (by decide) hok ((validateAndDecode_win F s).symm ▸ hF)

end Sys2Proof.Proofs.Checksum
end

section
/-! PROOFS. The anomaly set (60_exceptions.md R325; 42_fixed_header.md R192, R195; 43_sips_header.md R217, R222, R238, R240, R244;
44_ltas_frame.md R280, R298).
The one idea: an anomaly is raised exactly when its field decodes to its `Unknown` or `invalid` variant, so the table's condition
is that of the decoding, and the register of the field reads the variant's code. -/

namespace Sys2Proof.Proofs.Anomalies

open Sys2Proof.Machine
open Sys2Proof.Proofs.Enumerations Sys2Proof.Proofs.CodeTables

/-- The modes are named below 7 (44_ltas_frame.md R298). -/
theorem enumerates_ltasMode : Enumerates LtasMode.ofRaw LtasMode.code .unknown 7 :=
  ⟨by decide, fun v hv => by grind [LtasMode.ofRaw], rfl⟩

/-- The condition of each row of R325. -/
def condition (F : Frame) : AnomalyKind → Prop
  | .unknownEndianness => F.be 0 4 ≠ 0xFFFFFFFF ∧ F.be 0 4 ≠ 0
  | .unknownExtendedHeaderType => F.be 4 4 > 3
  | .unknownAddressType => F.be 64 4 > 1
  | .unknownRangeAvailability => F.be 112 4 > 1
  | .unknownCategory => F.be 224 4 > 2
  | .unknownType => F.be 228 4 > 4
  | .unknownCertified => F.be 240 4 > 1
  | .invalidVelocityScale => F.lbits 119 120 = 2 ∨ F.lbits 119 120 = 3
  | .unknownMode => F.lbits 193 195 = 7

/-- A velocity scale has two bits, so from 2 on there are two codes. -/
theorem two_le_velocityScale_iff (F : Frame) : 2 ≤ F.lbits 119 120 ↔ F.lbits 119 120 = 2 ∨ F.lbits 119 120 = 3 := by
  have hwidth := lbits_lt F 119 120
  omega

/-- A mode has three bits, so from 7 on there is one code. -/
theorem seven_le_mode_iff (F : Frame) : 7 ≤ F.lbits 193 195 ↔ F.lbits 193 195 = 7 := by
  have hwidth := lbits_lt F 193 195
  omega

theorem raised_iff_condition (F : Frame) (k : AnomalyKind) : raised F k ↔ condition F k := by
  cases k with
  | unknownEndianness => exact byteOrder_ofRaw_eq_unknown (F.be 0 4)
  | unknownExtendedHeaderType => exact enumerates_extHeaderType.ofRaw_eq_unknown (F.be 4 4)
  | unknownAddressType => exact enumerates_addressType.ofRaw_eq_unknown (F.be 64 4)
  | unknownRangeAvailability => exact enumerates_rangeAvailability.ofRaw_eq_unknown (F.be 112 4)
  | unknownCategory => exact enumerates_category.ofRaw_eq_unknown (F.be 224 4)
  | unknownType => exact enumerates_messageType.ofRaw_eq_unknown (F.be 228 4)
  | unknownCertified => exact enumerates_certified.ofRaw_eq_unknown (F.be 240 4)
  | invalidVelocityScale =>
    exact (enumerates_velocityScale.ofRaw_eq_unknown (F.lbits 119 120)).trans (two_le_velocityScale_iff F)
  | unknownMode => exact (enumerates_ltasMode.ofRaw_eq_unknown (F.lbits 193 195)).trans (seven_le_mode_iff F)

/-- The register of the field that each row of R325 names. -/
def fieldRegister : AnomalyKind → ResultReg
  | .unknownEndianness => .fhBorder
  | .unknownExtendedHeaderType => .fhExtType
  | .unknownAddressType => .eaAddrType
  | .unknownRangeAvailability => .tpRangeAv
  | .unknownCategory => .eiCat
  | .unknownType => .eiType
  | .unknownCertified => .eiCert
  | .invalidVelocityScale => .ltVscale
  | .unknownMode => .ltMode

/-- The code of the field's `Unknown` or `invalid` variant. -/
def unknownCode : AnomalyKind → Nat
  | .unknownEndianness => ByteOrder.code .unknown
  | .unknownExtendedHeaderType => ExtHeaderType.code .unknown
  | .unknownAddressType => AddressType.code .unknown
  | .unknownRangeAvailability => RangeAvailability.code .unknown
  | .unknownCategory => Category.code .unknown
  | .unknownType => MessageType.code .unknown
  | .unknownCertified => Certified.code .unknown
  | .invalidVelocityScale => VelocityScale.code .invalid
  | .unknownMode => LtasMode.code .unknown

/-- The field of an anomaly that is raised reads as its unknown variant's code; `LT_MODE` is the raw code itself. -/
theorem value_fieldRegister_of_raised {F : Frame} {k : AnomalyKind} (h : raised F k) :
    (fieldRegister k).value F = .unsigned (unknownCode k) := by
  cases k with
  | unknownEndianness => exact congrArg (fun x => RegValue.unsigned (ByteOrder.code x)) h
  | unknownExtendedHeaderType => exact congrArg (fun x => RegValue.unsigned (ExtHeaderType.code x)) h
  | unknownAddressType => exact congrArg (fun x => RegValue.unsigned (AddressType.code x)) h
  | unknownRangeAvailability => exact congrArg (fun x => RegValue.unsigned (RangeAvailability.code x)) h
  | unknownCategory => exact congrArg (fun x => RegValue.unsigned (Category.code x)) h
  | unknownType => exact congrArg (fun x => RegValue.unsigned (MessageType.code x)) h
  | unknownCertified => exact congrArg (fun x => RegValue.unsigned (Certified.code x)) h
  | invalidVelocityScale => exact congrArg (fun x => RegValue.unsigned (VelocityScale.code x)) h
  | unknownMode => exact congrArg RegValue.unsigned ((raised_iff_condition F .unknownMode).1 h)

/-- Settles O39: the bit of an anomaly is set exactly when it is raised; one row of R325 at a time. -/
theorem anomalyBitsAreTheirConditions : Obligations.AnomalyBitsAreTheirConditions := by
  unfold Obligations.AnomalyBitsAreTheirConditions
  intro F
  have bit_iff (k : AnomalyKind) : F.anomalies.getLsbD k.bit = true ↔ condition F k :=
    (anomalies_bit_iff F k).trans (raised_iff_condition F k)
  have reads (k : AnomalyKind) (h : F.anomalies.getLsbD k.bit = true) :
      (fieldRegister k).value F = .unsigned (unknownCode k) :=
    value_fieldRegister_of_raised ((anomalies_bit_iff F k).1 h)
  exact ⟨bit_iff .unknownEndianness, bit_iff .unknownExtendedHeaderType, bit_iff .unknownAddressType,
    bit_iff .unknownRangeAvailability, bit_iff .unknownCategory, bit_iff .unknownType, bit_iff .unknownCertified,
    bit_iff .invalidVelocityScale, bit_iff .unknownMode, reads .unknownEndianness, reads .unknownExtendedHeaderType,
    reads .unknownAddressType, reads .unknownRangeAvailability, reads .unknownCategory, reads .unknownType,
    reads .unknownCertified, reads .invalidVelocityScale, reads .unknownMode⟩

end Sys2Proof.Proofs.Anomalies
end

section
/-! PROOFS. Fatal errors, command errors, waiting, and several instances (60_exceptions.md R324, R329 to R331, R337, R339). -/

namespace Sys2Proof.Proofs.Exceptions

open Sys2Proof.Machine
open Sys2Proof.Proofs.Effects Sys2Proof.Proofs.Readback Sys2Proof.Proofs.Responses

/-! ## Fatal errors (R324) -/

/-- Outside OK there is no record: `RDREG` of a result register is a command error (40_control.md R131). -/
theorem exec_rdreg_of_ne_ok {r : RegNumber} {q : ResultReg} (hr : registerOf r = some (.result q)) {s : State}
    (hs : s.state ≠ .ok) : exec (.rdreg r) s = .next { s with cmdErr := true, resps := s.resps ++ [0#64] } :=
  exec_of_failedRead rfl (mt (commandErrorCause_rdreg_result hr).1 (mt requireRecord_eq_none.1 hs))

/-- A decode that ends in ERR is the bad sync's. -/
theorem validateAndDecode_of_err {F : Frame} {s : State} (h : (validateAndDecode F s).state = .err) :
    validateAndDecode F s = failBadSync (BitVec.ofNat 16 (F.be 300 2)) s := by
  rw [validateAndDecode_eq] at h ⊢
  split at h
  · cases h
  · next hv => rw [if_neg hv]

/-- Either fatal error of `END` clears the anomalies. -/
theorem anom_of_fatalError {s t : State} (hs : s.state = .fill) (h : exec .endBuffer s = .next t) (ht : t.state = .err) :
    t.anom = 0#9 := by
  cases effect_of_exec h with
  | tooShort _ _ => exact failTooShort_anom s
  | decoded F _ _ _ => rw [validateAndDecode_of_err ht, failBadSync_anom]
  | answered v hread _ => cases hread
  | refused cause hc => exact absurd (commandErrorCause_endBuffer.2 (requireFill_eq_none.2 hs)) hc

/-- Settles O18: both fatal errors clear the anomalies, and ERR is not the state in which a record is readable. -/
theorem fatalErrorsLeaveNoRecord : Obligations.FatalErrorsLeaveNoRecord := by
  unfold Obligations.FatalErrorsLeaveNoRecord
  intro s t hs h ht
  exact ⟨anom_of_fatalError hs h ht, fun r q hr => exec_rdreg_of_ne_ok hr (by rw [ht]; nofun)⟩

/-! ## Command errors (R329 to R331) -/

/-- A command whose check fails sets `CMDERR`, answers 0 if it is a read, and does nothing else. -/
theorem exec_of_failedCommand {i : Instr} {s : State} (h : commandErrorCause i s ≠ none) :
    exec i s = .next { s with cmdErr := true, resps := if isReadback i then s.resps ++ [0#64] else s.resps } := by
  obtain ⟨cause, he⟩ := exec_of_commandError h
  rw [he, raiseCmdError_eq, opcReturnsResponse_opcode]

/-- A command whose check passes does not set `CMDERR`. -/
theorem cmdErr_before_of_effect {i : Instr} {s t : State} (h : Effect s i t) (hc : commandErrorCause i s = none)
    (ht : t.cmdErr = true) : s.cmdErr = true := by
  cases h with
  | nop | beginBuffer | push _ _ | tooShort _ _ | answered _ _ _ => exact ht
  | reset => cases ht
  | decoded F _ _ _ => rwa [validateAndDecode_cmdErr] at ht
  | refused cause herr => exact absurd hc herr

/-- Settles O48: a failed check has its one effect, no other effect sets `CMDERR`, and an illegal word is refused by its opcode. -/
theorem commandErrorHasOneEffect : Obligations.CommandErrorHasOneEffect := by
  unfold Obligations.CommandErrorHasOneEffect
  intro s
  refine ⟨fun i => ⟨exec_of_failedCommand, fun t hc h => cmdErr_before_of_effect (effect_of_exec h) hc⟩,
    fun w hw => ⟨fun hread => ?_, fun hread => ?_⟩⟩
  · rw [runWord_of_not_legalWord hw, raiseCmdError_of_readOpcode _ hread]
  · rw [runWord_of_not_legalWord hw, raiseCmdError_of_not_readOpcode _ hread]

/-! ## Waiting (R339) -/

/-- Settles O13: a step with nothing on the port is the same state, so any number of them is. -/
theorem waitingKeepsAllState : Obligations.WaitingKeepsAllState := by
  unfold Obligations.WaitingKeepsAllState
  intro s n hp
  induction n with
  | zero => exact runSteps_zero s
  | succ n ih => rw [runSteps_of_step (step_of_empty hp), ih]

/-! ## Several instances (R337) -/

/-- A platform that goes on has one member replaced by that member's own next state. -/
theorem stepInstance_next {p p' : Platform} {k : Nat} (h : p.stepInstance k = some (.next p')) :
    ∃ s t, p[k]? = some s ∧ step s = .next t ∧ p' = p.set k t := by
  unfold Platform.stepInstance at h
  split at h
  · cases h
  · next s hk =>
    split at h
    · next t ht => exact ⟨s, t, hk, ht, (Host.Outcome.next.inj (Option.some.inj h)).symm⟩
    · cases h
    · cases h

/-- Settles O59: replacing one member of a list changes neither its length nor another member. -/
theorem instancesNeverInteract : Obligations.InstancesNeverInteract := by
  unfold Obligations.InstancesNeverInteract
  intro p p' k h
  obtain ⟨s, t, hk, ht, rfl⟩ := stepInstance_next h
  obtain ⟨hlt, -⟩ := List.getElem?_eq_some_iff.1 hk
  exact ⟨⟨s, t, hk, ht, List.getElem?_set_self hlt⟩, List.length_set, fun j hj => List.getElem?_set_ne (Ne.symm hj)⟩

end Sys2Proof.Proofs.Exceptions
end

section
/-! PROOFS. The state after a reset, by command or by hardware (70_reset_and_hazards.md R350, R351). -/

namespace Sys2Proof.Proofs.Reset

open Sys2Proof.Machine
open Sys2Proof.Proofs.Effects Sys2Proof.Proofs.Registers Sys2Proof.Proofs.Control Sys2Proof.Proofs.Exceptions

/-! ## What the registers read as (R351) -/

/-- The number of a status register names it: the rows of the table (10_state.md R31). -/
theorem registerOf_statusNumber (q : StatusReg) : registerOf (BitVec.ofNat 12 q.number) = some (.status q) := by
  cases q <;> rfl

/-- The number of a result register names it: the rows of the table (10_state.md R36). -/
theorem registerOf_resultNumber (q : ResultReg) : registerOf (BitVec.ofNat 12 q.number) = some (.result q) := by
  cases q <;> rfl

/-- The numbers below 4 are those of the status registers (10_state.md R32 to R35). -/
theorem exists_statusReg_of_lt_four {n : Nat} (hn : n < 4) : ∃ q : StatusReg, q.number = n := by
  have hmem : n ∈ StatusReg.all.map StatusReg.number := by
    rw [statusNumbers_eq, List.mem_range'_1]
    omega
  obtain ⟨q, -, hq⟩ := List.mem_map.1 hmem
  exact ⟨q, hq⟩

/-- Every status register reads as 0 after a reset. -/
theorem statusResponse_resetElements (s : State) (q : StatusReg) : q.response (resetElements s) = 0#64 := by
  cases q with
  | status => exact statusWord_resetElements s
  | count | syncVal | anomaly => rfl

/-- Settles O8: every number below 4 names a status register, which reads as 0; a result register is readable in OK only. -/
theorem resetStateHoldsTheResetValues : Obligations.ResetStateHoldsTheResetValues := by
  unfold Obligations.ResetStateHoldsTheResetValues
  refine ⟨rfl, rfl, Memory.read_nil, rfl, rfl, rfl, rfl, fun n hn => ?_,
    fun q => exec_rdreg_of_ne_ok (registerOf_resultNumber q) nofun⟩
  obtain ⟨q, rfl⟩ := exists_statusReg_of_lt_four hn
  have hzero : q.response State.reset = 0#64 := statusResponse_resetElements State.reset q
  rw [exec_rdreg_of_status (registerOf_statusNumber q), hzero]
  rfl

/-! ## The hardware reset (R350) -/

/-- No frame is defined in IDLE (10_state.md R26). -/
theorem normalisedFrame_of_idle {s : State} (hs : s.state = .idle) : s.normalisedFrame = none := by
  have hdefined : ¬ s.frameDefined = true := by simp [frameDefined_iff, hs]
  exact if_neg hdefined

/-- Settles O10: the step is the reset of the elements, whatever word it abandons, and so is `RESET`. -/
theorem hardwareResetHasTheEffectOfReset : Obligations.HardwareResetHasTheEffectOfReset := by
  unfold Obligations.HardwareResetHasTheEffectOfReset
  intro s abandoned es hp
  exact ⟨resetElements { s with port := es }, step_of_hardReset hp, rfl, rfl, rfl, rfl, rfl, rfl, rfl, Memory.read_nil,
    normalisedFrame_of_idle rfl, resultRegister_of_ne_ok nofun⟩

end Sys2Proof.Proofs.Reset
end
